-- ==== Sys2Proof/Word.lean ====
section
/-! DEFINITION. The machine's word types.
Data is 8 bits wide (R4) and addresses are 16 bits wide (R5). -/

namespace Sys2Proof

/-- A u8: a general register, a bus transfer or an opcode (R4). -/
abbrev Byte := BitVec 8

/-- A u16: SP, PC, a register pair or a bus address (R5). -/
abbrev Word := BitVec 16

end Sys2Proof
end

