-- ==== Sys2Proof/Config.lean ====
section
/-! DEFINITION. The defaults of the spec's named parameters (R6), and the byte that memory nothing has written reads as.
`BUS` and `ADMITTED` are the fields of `Params` (Machine/Ops.lean), which every meaning and operation takes.
`RESET_PC` and `RESET_REGS` are arguments of `State.powerOn` and `State.resetCore` (Machine/State.lean); `irq_pending` is
the argument of `stepCall` (Machine/Engine.lean). -/

namespace Sys2Proof

/-- `RESET_PC` (R6, R170): PC after reset, at its default. -/
def Config.resetPc : Word := 0x0000#16

/-- What an address that memory does not list reads as.
DESIGN CHOICE (unsafe, notes/assumptions/4.md): the spec gives the bus no initial image (R203). -/
def Config.unlistedByte : Byte := 0x00#8

/-- `ADMITTED` (R6, R331) by table (`true` for the CB table) and opcode byte, at its default: every defined entry.
An entry that R330 does not define is no instruction whatever this answers. -/
def Config.admitted (_prefixed : Bool) (_opcode : Byte) : Bool := true

end Sys2Proof
end

