-- ==== Sys2Proof/Forms.lean ====
section
/-! DEFINITION. The operand selectors and the closed set of instruction variants of R340 (D15).
`Form` is the spec's own `Instruction` type; the opcode table's 500 rows are `Instr` (Syntax.lean), and
`Form.instr` and `Instr.form` (Decode.lean) go between the two. -/

namespace Sys2Proof

/-- `R8`, the 8-bit operands of a 3-bit code, in code order (R310). `hlInd` is `(HL)`, the byte at address HL. -/
inductive R8 where
  | b | c | d | e | h | l | hlInd | a
deriving DecidableEq, Repr

/-- `R16`, the pairs of LD rr,d16, INC rr, DEC rr and ADD HL,rr, in code order (R311). -/
inductive R16 where
  | bc | de | hl | sp
deriving DecidableEq, Repr

/-- `R16stk`, the pairs of PUSH and POP, in code order (R312). -/
inductive R16stk where
  | bc | de | hl | af
deriving DecidableEq, Repr

/-- `R16mem`, the address operands of LD (rr),A and LD A,(rr), in code order (R314). -/
inductive R16mem where
  | bc | de | hlInc | hlDec
deriving DecidableEq, Repr

/-- `Cond`, in code order (R313): NotZero, Zero, NotCarry, Carry. -/
inductive Cond where
  | nz | z | nc | c
deriving DecidableEq, Repr

/-- `JumpTest` (R340, R425): a condition, or Always (the unconditional opcode of each group, R313). -/
inductive JumpTest where
  | cond (cc : Cond)
  | always
deriving DecidableEq, Repr

/-- `AluOp`, in code order (R315). -/
inductive AluOp where
  | add | adc | sub | sbc | and | xor | or | cp
deriving DecidableEq, Repr

/-- `RotOp`, in code order (R316). -/
inductive RotOp where
  | rlc | rrc | rl | rr | sla | sra | swap | srl
deriving DecidableEq, Repr

/-- The instruction variants with their operand selectors (R340).
No variant carries an immediate: immediates are read from the bus when the instruction runs (R319). -/
inductive Form where
  | nop | stop | halt | di | ei
  | ldR8R8 (dst src : R8)
  | ldR8D8 (dst : R8)
  | ldAM (m : R16mem)
  | ldMA (m : R16mem)
  | ldAA16 | ldA16A | ldhAA8 | ldhA8A | ldhAC | ldhCA
  | ldR16D16 (rr : R16)
  | ldA16SP | ldSPHL | ldHLSPe8
  | push (rr : R16stk)
  | pop (rr : R16stk)
  | aluR8 (op : AluOp) (src : R8)
  | aluD8 (op : AluOp)
  | incR8 (r : R8)
  | decR8 (r : R8)
  | daa | cpl | scf | ccf
  | addHLR16 (rr : R16)
  | incR16 (rr : R16)
  | decR16 (rr : R16)
  | addSPe8
  | rlca | rrca | rla | rra
  | rot (op : RotOp) (r : R8)
  /-- BIT b,r of R340. -/
  | testBit (b : Fin 8) (r : R8)
  /-- RES b,r of R340. -/
  | resetBit (b : Fin 8) (r : R8)
  /-- SET b,r of R340. -/
  | setBit (b : Fin 8) (r : R8)
  | jp (t : JumpTest)
  | jpHL
  | jr (t : JumpTest)
  | call (t : JumpTest)
  | retCC (cc : Cond)
  | ret | reti
  | rst (n : Fin 8)
deriving DecidableEq, Repr

/-- One character of a row's `flags` column (R334): computed by the rule, set to 0, set to 1, or unchanged. -/
inductive FlagEffect where
  | computed | zero | one | keep
deriving DecidableEq, Repr

/-- What a row of opcode_table.json says of its instruction (R334): the table it stands in (`prefixed` for the CB
table), its index there, its length in bytes, and its flags column Z, N, H, C. -/
structure TableRow where
  prefixed : Bool
  opcode   : Byte
  length   : Nat
  z        : FlagEffect
  n        : FlagEffect
  h        : FlagEffect
  c        : FlagEffect
deriving DecidableEq, Repr

end Sys2Proof
end

