-- ==== Sys2Proof/Decode.lean ====
section
/-! DEFINITION. The decoder, total on any bytes and rejecting by name, and after it the encoder.
The decoder reads an opcode byte by its fields (R305, R323, R324); the encoder is written from the rows of
opcode_table.json (R334), so the two are independent readings of the encoding. -/

namespace Sys2Proof

/-! ### Opcode fields (R305) and operand codes (R310 to R317) -/

/-- x = op[7:6]. -/
def opX (op : Byte) : Nat := (op.extractLsb' 6 2).toNat

/-- y = op[5:3]. -/
def opY (op : Byte) : Nat := (op.extractLsb' 3 3).toNat

/-- z = op[2:0]. -/
def opZ (op : Byte) : Nat := (op.extractLsb' 0 3).toNat

/-- p = op[5:4]. -/
def opP (op : Byte) : Nat := (op.extractLsb' 4 2).toNat

/-- q = op[3]. -/
def opQ (op : Byte) : Nat := (op.extractLsb' 3 1).toNat

/-- The operand of a 3-bit code (R310). -/
def R8.ofCode : Nat → R8
  | 0 => .b | 1 => .c | 2 => .d | 3 => .e | 4 => .h | 5 => .l | 6 => .hlInd | _ => .a

/-- The pair of a 2-bit code (R311). -/
def R16.ofCode : Nat → R16
  | 0 => .bc | 1 => .de | 2 => .hl | _ => .sp

/-- The stack pair of a 2-bit code (R312). -/
def R16stk.ofCode : Nat → R16stk
  | 0 => .bc | 1 => .de | 2 => .hl | _ => .af

/-- The address operand of a 2-bit code (R314). -/
def R16mem.ofCode : Nat → R16mem
  | 0 => .bc | 1 => .de | 2 => .hlInc | _ => .hlDec

/-- The condition of a 2-bit code (R313). -/
def Cond.ofCode : Nat → Cond
  | 0 => .nz | 1 => .z | 2 => .nc | _ => .c

/-- The ALU operation of a 3-bit code (R315). -/
def AluOp.ofCode : Nat → AluOp
  | 0 => .add | 1 => .adc | 2 => .sub | 3 => .sbc | 4 => .and | 5 => .xor | 6 => .or | _ => .cp

/-- The rotate or shift operation of a 3-bit code (R316). -/
def RotOp.ofCode : Nat → RotOp
  | 0 => .rlc | 1 => .rrc | 2 => .rl | 3 => .rr | 4 => .sla | 5 => .sra | 6 => .swap | _ => .srl

/-- A bit index or RST number from its 3-bit field (R317, R318). -/
def index3 (y : Nat) : Fin 8 := Fin.ofNat 8 y

/-! ### The two tables by fields -/

/-- Quadrant 0 of the plain table (R323). -/
def decodeQuadrant0 (op : Byte) : Option Form :=
  let y := opY op
  let p := opP op
  match opZ op with
  | 0 =>
    match y with
    | 0 => some .nop
    | 1 => some .ldA16SP
    | 2 => some .stop
    | 3 => some (.jr .always)
    | _ => some (.jr (.cond (Cond.ofCode (y - 4))))
  | 1 => some (if opQ op = 0 then .ldR16D16 (R16.ofCode p) else .addHLR16 (R16.ofCode p))
  | 2 => some (if opQ op = 0 then .ldMA (R16mem.ofCode p) else .ldAM (R16mem.ofCode p))
  | 3 => some (if opQ op = 0 then .incR16 (R16.ofCode p) else .decR16 (R16.ofCode p))
  | 4 => some (.incR8 (R8.ofCode y))
  | 5 => some (.decR8 (R8.ofCode y))
  | 6 => some (.ldR8D8 (R8.ofCode y))
  | _ =>
    match y with
    | 0 => some .rlca
    | 1 => some .rrca
    | 2 => some .rla
    | 3 => some .rra
    | 4 => some .daa
    | 5 => some .cpl
    | 6 => some .scf
    | _ => some .ccf

/-- Quadrant 3 of the plain table (R323). The CB prefix (R325) and the eleven illegal entries (R326) are the
unimplemented marker. -/
def decodeQuadrant3 (op : Byte) : Option Form :=
  let y := opY op
  let p := opP op
  match opZ op with
  | 0 =>
    match y with
    | 4 => some .ldhA8A
    | 5 => some .addSPe8
    | 6 => some .ldhAA8
    | 7 => some .ldHLSPe8
    | _ => some (.retCC (Cond.ofCode y))
  | 1 =>
    if opQ op = 0 then some (.pop (R16stk.ofCode p))
    else
      match p with
      | 0 => some .ret
      | 1 => some .reti
      | 2 => some .jpHL
      | _ => some .ldSPHL
  | 2 =>
    match y with
    | 4 => some .ldhCA
    | 5 => some .ldA16A
    | 6 => some .ldhAC
    | 7 => some .ldAA16
    | _ => some (.jp (.cond (Cond.ofCode y)))
  | 3 =>
    match y with
    | 0 => some (.jp .always)
    | 6 => some .di
    | 7 => some .ei
    | _ => none
  | 4 => if y < 4 then some (.call (.cond (Cond.ofCode y))) else none
  | 5 =>
    if opQ op = 0 then some (.push (R16stk.ofCode p))
    else if p = 0 then some (.call .always) else none
  | 6 => some (.aluD8 (AluOp.ofCode y))
  | _ => some (.rst (index3 y))

/-- The plain table (R323). -/
def decodePlain (op : Byte) : Option Form :=
  match opX op with
  | 0 => decodeQuadrant0 op
  | 1 =>
    if opY op = 6 ∧ opZ op = 6 then some .halt
    else some (.ldR8R8 (R8.ofCode (opY op)) (R8.ofCode (opZ op)))
  | 2 => some (.aluR8 (AluOp.ofCode (opY op)) (R8.ofCode (opZ op)))
  | _ => decodeQuadrant3 op

/-- The CB table (R324): all 256 entries are defined. -/
def decodeCB (op : Byte) : Form :=
  let r := R8.ofCode (opZ op)
  match opX op with
  | 0 => .rot (RotOp.ofCode (opY op)) r
  | 1 => .testBit (index3 (opY op)) r
  | 2 => .resetBit (index3 (opY op)) r
  | _ => .setBit (index3 (opY op)) r

/-- The variant of a table entry, or none for the unimplemented marker (R320, R322, R330). -/
def decodeForm (op : Byte) (isPrefixed : Bool) : Option Form :=
  if isPrefixed then some (decodeCB op) else decodePlain op

/-! ### Variants and table rows -/

/-- LD r,r' and the (HL) moves: quadrant 1 of R323. The slot of LD (HL),(HL) holds HALT (R1110); `Form.wf` excludes it. -/
def Instr.ofLdR8R8 : R8 → R8 → Instr
  | .b, .b => .ld_B_B
  | .b, .c => .ld_B_C
  | .b, .d => .ld_B_D
  | .b, .e => .ld_B_E
  | .b, .h => .ld_B_H
  | .b, .l => .ld_B_L
  | .b, .hlInd => .ld_B_atHL
  | .b, .a => .ld_B_A
  | .c, .b => .ld_C_B
  | .c, .c => .ld_C_C
  | .c, .d => .ld_C_D
  | .c, .e => .ld_C_E
  | .c, .h => .ld_C_H
  | .c, .l => .ld_C_L
  | .c, .hlInd => .ld_C_atHL
  | .c, .a => .ld_C_A
  | .d, .b => .ld_D_B
  | .d, .c => .ld_D_C
  | .d, .d => .ld_D_D
  | .d, .e => .ld_D_E
  | .d, .h => .ld_D_H
  | .d, .l => .ld_D_L
  | .d, .hlInd => .ld_D_atHL
  | .d, .a => .ld_D_A
  | .e, .b => .ld_E_B
  | .e, .c => .ld_E_C
  | .e, .d => .ld_E_D
  | .e, .e => .ld_E_E
  | .e, .h => .ld_E_H
  | .e, .l => .ld_E_L
  | .e, .hlInd => .ld_E_atHL
  | .e, .a => .ld_E_A
  | .h, .b => .ld_H_B
  | .h, .c => .ld_H_C
  | .h, .d => .ld_H_D
  | .h, .e => .ld_H_E
  | .h, .h => .ld_H_H
  | .h, .l => .ld_H_L
  | .h, .hlInd => .ld_H_atHL
  | .h, .a => .ld_H_A
  | .l, .b => .ld_L_B
  | .l, .c => .ld_L_C
  | .l, .d => .ld_L_D
  | .l, .e => .ld_L_E
  | .l, .h => .ld_L_H
  | .l, .l => .ld_L_L
  | .l, .hlInd => .ld_L_atHL
  | .l, .a => .ld_L_A
  | .hlInd, .b => .ld_atHL_B
  | .hlInd, .c => .ld_atHL_C
  | .hlInd, .d => .ld_atHL_D
  | .hlInd, .e => .ld_atHL_E
  | .hlInd, .h => .ld_atHL_H
  | .hlInd, .l => .ld_atHL_L
  | .hlInd, .hlInd => .halt
  | .hlInd, .a => .ld_atHL_A
  | .a, .b => .ld_A_B
  | .a, .c => .ld_A_C
  | .a, .d => .ld_A_D
  | .a, .e => .ld_A_E
  | .a, .h => .ld_A_H
  | .a, .l => .ld_A_L
  | .a, .hlInd => .ld_A_atHL
  | .a, .a => .ld_A_A

/-- ALU[y] A,R8[z]: quadrant 2 of R323. -/
def Instr.ofAluR8 : AluOp → R8 → Instr
  | .add, .b => .add_A_B
  | .add, .c => .add_A_C
  | .add, .d => .add_A_D
  | .add, .e => .add_A_E
  | .add, .h => .add_A_H
  | .add, .l => .add_A_L
  | .add, .hlInd => .add_A_atHL
  | .add, .a => .add_A_A
  | .adc, .b => .adc_A_B
  | .adc, .c => .adc_A_C
  | .adc, .d => .adc_A_D
  | .adc, .e => .adc_A_E
  | .adc, .h => .adc_A_H
  | .adc, .l => .adc_A_L
  | .adc, .hlInd => .adc_A_atHL
  | .adc, .a => .adc_A_A
  | .sub, .b => .sub_A_B
  | .sub, .c => .sub_A_C
  | .sub, .d => .sub_A_D
  | .sub, .e => .sub_A_E
  | .sub, .h => .sub_A_H
  | .sub, .l => .sub_A_L
  | .sub, .hlInd => .sub_A_atHL
  | .sub, .a => .sub_A_A
  | .sbc, .b => .sbc_A_B
  | .sbc, .c => .sbc_A_C
  | .sbc, .d => .sbc_A_D
  | .sbc, .e => .sbc_A_E
  | .sbc, .h => .sbc_A_H
  | .sbc, .l => .sbc_A_L
  | .sbc, .hlInd => .sbc_A_atHL
  | .sbc, .a => .sbc_A_A
  | .and, .b => .and_A_B
  | .and, .c => .and_A_C
  | .and, .d => .and_A_D
  | .and, .e => .and_A_E
  | .and, .h => .and_A_H
  | .and, .l => .and_A_L
  | .and, .hlInd => .and_A_atHL
  | .and, .a => .and_A_A
  | .xor, .b => .xor_A_B
  | .xor, .c => .xor_A_C
  | .xor, .d => .xor_A_D
  | .xor, .e => .xor_A_E
  | .xor, .h => .xor_A_H
  | .xor, .l => .xor_A_L
  | .xor, .hlInd => .xor_A_atHL
  | .xor, .a => .xor_A_A
  | .or, .b => .or_A_B
  | .or, .c => .or_A_C
  | .or, .d => .or_A_D
  | .or, .e => .or_A_E
  | .or, .h => .or_A_H
  | .or, .l => .or_A_L
  | .or, .hlInd => .or_A_atHL
  | .or, .a => .or_A_A
  | .cp, .b => .cp_A_B
  | .cp, .c => .cp_A_C
  | .cp, .d => .cp_A_D
  | .cp, .e => .cp_A_E
  | .cp, .h => .cp_A_H
  | .cp, .l => .cp_A_L
  | .cp, .hlInd => .cp_A_atHL
  | .cp, .a => .cp_A_A

/-- ROT[y] R8[z]: quadrant 0 of R324. -/
def Instr.ofRot : RotOp → R8 → Instr
  | .rlc, .b => .rlc_B
  | .rlc, .c => .rlc_C
  | .rlc, .d => .rlc_D
  | .rlc, .e => .rlc_E
  | .rlc, .h => .rlc_H
  | .rlc, .l => .rlc_L
  | .rlc, .hlInd => .rlc_atHL
  | .rlc, .a => .rlc_A
  | .rrc, .b => .rrc_B
  | .rrc, .c => .rrc_C
  | .rrc, .d => .rrc_D
  | .rrc, .e => .rrc_E
  | .rrc, .h => .rrc_H
  | .rrc, .l => .rrc_L
  | .rrc, .hlInd => .rrc_atHL
  | .rrc, .a => .rrc_A
  | .rl, .b => .rl_B
  | .rl, .c => .rl_C
  | .rl, .d => .rl_D
  | .rl, .e => .rl_E
  | .rl, .h => .rl_H
  | .rl, .l => .rl_L
  | .rl, .hlInd => .rl_atHL
  | .rl, .a => .rl_A
  | .rr, .b => .rr_B
  | .rr, .c => .rr_C
  | .rr, .d => .rr_D
  | .rr, .e => .rr_E
  | .rr, .h => .rr_H
  | .rr, .l => .rr_L
  | .rr, .hlInd => .rr_atHL
  | .rr, .a => .rr_A
  | .sla, .b => .sla_B
  | .sla, .c => .sla_C
  | .sla, .d => .sla_D
  | .sla, .e => .sla_E
  | .sla, .h => .sla_H
  | .sla, .l => .sla_L
  | .sla, .hlInd => .sla_atHL
  | .sla, .a => .sla_A
  | .sra, .b => .sra_B
  | .sra, .c => .sra_C
  | .sra, .d => .sra_D
  | .sra, .e => .sra_E
  | .sra, .h => .sra_H
  | .sra, .l => .sra_L
  | .sra, .hlInd => .sra_atHL
  | .sra, .a => .sra_A
  | .swap, .b => .swap_B
  | .swap, .c => .swap_C
  | .swap, .d => .swap_D
  | .swap, .e => .swap_E
  | .swap, .h => .swap_H
  | .swap, .l => .swap_L
  | .swap, .hlInd => .swap_atHL
  | .swap, .a => .swap_A
  | .srl, .b => .srl_B
  | .srl, .c => .srl_C
  | .srl, .d => .srl_D
  | .srl, .e => .srl_E
  | .srl, .h => .srl_H
  | .srl, .l => .srl_L
  | .srl, .hlInd => .srl_atHL
  | .srl, .a => .srl_A

/-- BIT y,R8[z]: quadrant 1 of R324. -/
def Instr.ofTestBit : Fin 8 → R8 → Instr
  | 0, .b => .bit_0_B
  | 0, .c => .bit_0_C
  | 0, .d => .bit_0_D
  | 0, .e => .bit_0_E
  | 0, .h => .bit_0_H
  | 0, .l => .bit_0_L
  | 0, .hlInd => .bit_0_atHL
  | 0, .a => .bit_0_A
  | 1, .b => .bit_1_B
  | 1, .c => .bit_1_C
  | 1, .d => .bit_1_D
  | 1, .e => .bit_1_E
  | 1, .h => .bit_1_H
  | 1, .l => .bit_1_L
  | 1, .hlInd => .bit_1_atHL
  | 1, .a => .bit_1_A
  | 2, .b => .bit_2_B
  | 2, .c => .bit_2_C
  | 2, .d => .bit_2_D
  | 2, .e => .bit_2_E
  | 2, .h => .bit_2_H
  | 2, .l => .bit_2_L
  | 2, .hlInd => .bit_2_atHL
  | 2, .a => .bit_2_A
  | 3, .b => .bit_3_B
  | 3, .c => .bit_3_C
  | 3, .d => .bit_3_D
  | 3, .e => .bit_3_E
  | 3, .h => .bit_3_H
  | 3, .l => .bit_3_L
  | 3, .hlInd => .bit_3_atHL
  | 3, .a => .bit_3_A
  | 4, .b => .bit_4_B
  | 4, .c => .bit_4_C
  | 4, .d => .bit_4_D
  | 4, .e => .bit_4_E
  | 4, .h => .bit_4_H
  | 4, .l => .bit_4_L
  | 4, .hlInd => .bit_4_atHL
  | 4, .a => .bit_4_A
  | 5, .b => .bit_5_B
  | 5, .c => .bit_5_C
  | 5, .d => .bit_5_D
  | 5, .e => .bit_5_E
  | 5, .h => .bit_5_H
  | 5, .l => .bit_5_L
  | 5, .hlInd => .bit_5_atHL
  | 5, .a => .bit_5_A
  | 6, .b => .bit_6_B
  | 6, .c => .bit_6_C
  | 6, .d => .bit_6_D
  | 6, .e => .bit_6_E
  | 6, .h => .bit_6_H
  | 6, .l => .bit_6_L
  | 6, .hlInd => .bit_6_atHL
  | 6, .a => .bit_6_A
  | 7, .b => .bit_7_B
  | 7, .c => .bit_7_C
  | 7, .d => .bit_7_D
  | 7, .e => .bit_7_E
  | 7, .h => .bit_7_H
  | 7, .l => .bit_7_L
  | 7, .hlInd => .bit_7_atHL
  | 7, .a => .bit_7_A

/-- RES y,R8[z]: quadrant 2 of R324. -/
def Instr.ofResetBit : Fin 8 → R8 → Instr
  | 0, .b => .res_0_B
  | 0, .c => .res_0_C
  | 0, .d => .res_0_D
  | 0, .e => .res_0_E
  | 0, .h => .res_0_H
  | 0, .l => .res_0_L
  | 0, .hlInd => .res_0_atHL
  | 0, .a => .res_0_A
  | 1, .b => .res_1_B
  | 1, .c => .res_1_C
  | 1, .d => .res_1_D
  | 1, .e => .res_1_E
  | 1, .h => .res_1_H
  | 1, .l => .res_1_L
  | 1, .hlInd => .res_1_atHL
  | 1, .a => .res_1_A
  | 2, .b => .res_2_B
  | 2, .c => .res_2_C
  | 2, .d => .res_2_D
  | 2, .e => .res_2_E
  | 2, .h => .res_2_H
  | 2, .l => .res_2_L
  | 2, .hlInd => .res_2_atHL
  | 2, .a => .res_2_A
  | 3, .b => .res_3_B
  | 3, .c => .res_3_C
  | 3, .d => .res_3_D
  | 3, .e => .res_3_E
  | 3, .h => .res_3_H
  | 3, .l => .res_3_L
  | 3, .hlInd => .res_3_atHL
  | 3, .a => .res_3_A
  | 4, .b => .res_4_B
  | 4, .c => .res_4_C
  | 4, .d => .res_4_D
  | 4, .e => .res_4_E
  | 4, .h => .res_4_H
  | 4, .l => .res_4_L
  | 4, .hlInd => .res_4_atHL
  | 4, .a => .res_4_A
  | 5, .b => .res_5_B
  | 5, .c => .res_5_C
  | 5, .d => .res_5_D
  | 5, .e => .res_5_E
  | 5, .h => .res_5_H
  | 5, .l => .res_5_L
  | 5, .hlInd => .res_5_atHL
  | 5, .a => .res_5_A
  | 6, .b => .res_6_B
  | 6, .c => .res_6_C
  | 6, .d => .res_6_D
  | 6, .e => .res_6_E
  | 6, .h => .res_6_H
  | 6, .l => .res_6_L
  | 6, .hlInd => .res_6_atHL
  | 6, .a => .res_6_A
  | 7, .b => .res_7_B
  | 7, .c => .res_7_C
  | 7, .d => .res_7_D
  | 7, .e => .res_7_E
  | 7, .h => .res_7_H
  | 7, .l => .res_7_L
  | 7, .hlInd => .res_7_atHL
  | 7, .a => .res_7_A

/-- SET y,R8[z]: quadrant 3 of R324. -/
def Instr.ofSetBit : Fin 8 → R8 → Instr
  | 0, .b => .set_0_B
  | 0, .c => .set_0_C
  | 0, .d => .set_0_D
  | 0, .e => .set_0_E
  | 0, .h => .set_0_H
  | 0, .l => .set_0_L
  | 0, .hlInd => .set_0_atHL
  | 0, .a => .set_0_A
  | 1, .b => .set_1_B
  | 1, .c => .set_1_C
  | 1, .d => .set_1_D
  | 1, .e => .set_1_E
  | 1, .h => .set_1_H
  | 1, .l => .set_1_L
  | 1, .hlInd => .set_1_atHL
  | 1, .a => .set_1_A
  | 2, .b => .set_2_B
  | 2, .c => .set_2_C
  | 2, .d => .set_2_D
  | 2, .e => .set_2_E
  | 2, .h => .set_2_H
  | 2, .l => .set_2_L
  | 2, .hlInd => .set_2_atHL
  | 2, .a => .set_2_A
  | 3, .b => .set_3_B
  | 3, .c => .set_3_C
  | 3, .d => .set_3_D
  | 3, .e => .set_3_E
  | 3, .h => .set_3_H
  | 3, .l => .set_3_L
  | 3, .hlInd => .set_3_atHL
  | 3, .a => .set_3_A
  | 4, .b => .set_4_B
  | 4, .c => .set_4_C
  | 4, .d => .set_4_D
  | 4, .e => .set_4_E
  | 4, .h => .set_4_H
  | 4, .l => .set_4_L
  | 4, .hlInd => .set_4_atHL
  | 4, .a => .set_4_A
  | 5, .b => .set_5_B
  | 5, .c => .set_5_C
  | 5, .d => .set_5_D
  | 5, .e => .set_5_E
  | 5, .h => .set_5_H
  | 5, .l => .set_5_L
  | 5, .hlInd => .set_5_atHL
  | 5, .a => .set_5_A
  | 6, .b => .set_6_B
  | 6, .c => .set_6_C
  | 6, .d => .set_6_D
  | 6, .e => .set_6_E
  | 6, .h => .set_6_H
  | 6, .l => .set_6_L
  | 6, .hlInd => .set_6_atHL
  | 6, .a => .set_6_A
  | 7, .b => .set_7_B
  | 7, .c => .set_7_C
  | 7, .d => .set_7_D
  | 7, .e => .set_7_E
  | 7, .h => .set_7_H
  | 7, .l => .set_7_L
  | 7, .hlInd => .set_7_atHL
  | 7, .a => .set_7_A

/-- The table row that stands for a variant (R341).
`LD_R8_R8` with both operands `(HL)` is no variant (`Form.wf`); its slot in the table is HALT. -/
def Form.instr : Form → Instr
  | .nop => .nop
  | .stop => .stop
  | .halt => .halt
  | .di => .di
  | .ei => .ei
  | .ldR8R8 dst src => Instr.ofLdR8R8 dst src
  | .ldR8D8 .b => .ld_B_d8
  | .ldR8D8 .c => .ld_C_d8
  | .ldR8D8 .d => .ld_D_d8
  | .ldR8D8 .e => .ld_E_d8
  | .ldR8D8 .h => .ld_H_d8
  | .ldR8D8 .l => .ld_L_d8
  | .ldR8D8 .hlInd => .ld_atHL_d8
  | .ldR8D8 .a => .ld_A_d8
  | .ldAM .bc => .ld_A_atBC
  | .ldAM .de => .ld_A_atDE
  | .ldAM .hlInc => .ld_A_atHLinc
  | .ldAM .hlDec => .ld_A_atHLdec
  | .ldMA .bc => .ld_atBC_A
  | .ldMA .de => .ld_atDE_A
  | .ldMA .hlInc => .ld_atHLinc_A
  | .ldMA .hlDec => .ld_atHLdec_A
  | .ldAA16 => .ld_A_atA16
  | .ldA16A => .ld_atA16_A
  | .ldhAA8 => .ldh_A_atA8
  | .ldhA8A => .ldh_atA8_A
  | .ldhAC => .ldh_A_atC
  | .ldhCA => .ldh_atC_A
  | .ldR16D16 .bc => .ld_BC_d16
  | .ldR16D16 .de => .ld_DE_d16
  | .ldR16D16 .hl => .ld_HL_d16
  | .ldR16D16 .sp => .ld_SP_d16
  | .ldA16SP => .ld_atA16_SP
  | .ldSPHL => .ld_SP_HL
  | .ldHLSPe8 => .ld_HL_SPe8
  | .push .bc => .push_BC
  | .push .de => .push_DE
  | .push .hl => .push_HL
  | .push .af => .push_AF
  | .pop .bc => .pop_BC
  | .pop .de => .pop_DE
  | .pop .hl => .pop_HL
  | .pop .af => .pop_AF
  | .aluR8 op src => Instr.ofAluR8 op src
  | .aluD8 .add => .add_A_d8
  | .aluD8 .adc => .adc_A_d8
  | .aluD8 .sub => .sub_A_d8
  | .aluD8 .sbc => .sbc_A_d8
  | .aluD8 .and => .and_A_d8
  | .aluD8 .xor => .xor_A_d8
  | .aluD8 .or => .or_A_d8
  | .aluD8 .cp => .cp_A_d8
  | .incR8 .b => .inc_B
  | .incR8 .c => .inc_C
  | .incR8 .d => .inc_D
  | .incR8 .e => .inc_E
  | .incR8 .h => .inc_H
  | .incR8 .l => .inc_L
  | .incR8 .hlInd => .inc_atHL
  | .incR8 .a => .inc_A
  | .decR8 .b => .dec_B
  | .decR8 .c => .dec_C
  | .decR8 .d => .dec_D
  | .decR8 .e => .dec_E
  | .decR8 .h => .dec_H
  | .decR8 .l => .dec_L
  | .decR8 .hlInd => .dec_atHL
  | .decR8 .a => .dec_A
  | .daa => .daa
  | .cpl => .cpl
  | .scf => .scf
  | .ccf => .ccf
  | .addHLR16 .bc => .add_HL_BC
  | .addHLR16 .de => .add_HL_DE
  | .addHLR16 .hl => .add_HL_HL
  | .addHLR16 .sp => .add_HL_SP
  | .incR16 .bc => .inc_BC
  | .incR16 .de => .inc_DE
  | .incR16 .hl => .inc_HL
  | .incR16 .sp => .inc_SP
  | .decR16 .bc => .dec_BC
  | .decR16 .de => .dec_DE
  | .decR16 .hl => .dec_HL
  | .decR16 .sp => .dec_SP
  | .addSPe8 => .add_SP_e8
  | .rlca => .rlca
  | .rrca => .rrca
  | .rla => .rla
  | .rra => .rra
  | .rot op r => Instr.ofRot op r
  | .testBit b r => Instr.ofTestBit b r
  | .resetBit b r => Instr.ofResetBit b r
  | .setBit b r => Instr.ofSetBit b r
  | .jp (.cond .nz) => .jp_NZ_a16
  | .jp .always => .jp_a16
  | .jp (.cond .z) => .jp_Z_a16
  | .jp (.cond .nc) => .jp_NC_a16
  | .jp (.cond .c) => .jp_C_a16
  | .jpHL => .jp_HL
  | .jr .always => .jr_e8
  | .jr (.cond .nz) => .jr_NZ_e8
  | .jr (.cond .z) => .jr_Z_e8
  | .jr (.cond .nc) => .jr_NC_e8
  | .jr (.cond .c) => .jr_C_e8
  | .call (.cond .nz) => .call_NZ_a16
  | .call (.cond .z) => .call_Z_a16
  | .call .always => .call_a16
  | .call (.cond .nc) => .call_NC_a16
  | .call (.cond .c) => .call_C_a16
  | .retCC .nz => .ret_NZ
  | .retCC .z => .ret_Z
  | .retCC .nc => .ret_NC
  | .retCC .c => .ret_C
  | .ret => .ret
  | .reti => .reti
  | .rst 0 => .rst_00
  | .rst 1 => .rst_08
  | .rst 2 => .rst_10
  | .rst 3 => .rst_18
  | .rst 4 => .rst_20
  | .rst 5 => .rst_28
  | .rst 6 => .rst_30
  | .rst 7 => .rst_38

/-- The variant a table row stands for (R341): the inverse of `Form.instr`. -/
def Instr.form : Instr → Form
  | .nop => .nop
  | .ld_BC_d16 => .ldR16D16 .bc
  | .ld_atBC_A => .ldMA .bc
  | .inc_BC => .incR16 .bc
  | .inc_B => .incR8 .b
  | .dec_B => .decR8 .b
  | .ld_B_d8 => .ldR8D8 .b
  | .rlca => .rlca
  | .ld_atA16_SP => .ldA16SP
  | .add_HL_BC => .addHLR16 .bc
  | .ld_A_atBC => .ldAM .bc
  | .dec_BC => .decR16 .bc
  | .inc_C => .incR8 .c
  | .dec_C => .decR8 .c
  | .ld_C_d8 => .ldR8D8 .c
  | .rrca => .rrca
  | .stop => .stop
  | .ld_DE_d16 => .ldR16D16 .de
  | .ld_atDE_A => .ldMA .de
  | .inc_DE => .incR16 .de
  | .inc_D => .incR8 .d
  | .dec_D => .decR8 .d
  | .ld_D_d8 => .ldR8D8 .d
  | .rla => .rla
  | .jr_e8 => .jr .always
  | .add_HL_DE => .addHLR16 .de
  | .ld_A_atDE => .ldAM .de
  | .dec_DE => .decR16 .de
  | .inc_E => .incR8 .e
  | .dec_E => .decR8 .e
  | .ld_E_d8 => .ldR8D8 .e
  | .rra => .rra
  | .jr_NZ_e8 => .jr (.cond .nz)
  | .ld_HL_d16 => .ldR16D16 .hl
  | .ld_atHLinc_A => .ldMA .hlInc
  | .inc_HL => .incR16 .hl
  | .inc_H => .incR8 .h
  | .dec_H => .decR8 .h
  | .ld_H_d8 => .ldR8D8 .h
  | .daa => .daa
  | .jr_Z_e8 => .jr (.cond .z)
  | .add_HL_HL => .addHLR16 .hl
  | .ld_A_atHLinc => .ldAM .hlInc
  | .dec_HL => .decR16 .hl
  | .inc_L => .incR8 .l
  | .dec_L => .decR8 .l
  | .ld_L_d8 => .ldR8D8 .l
  | .cpl => .cpl
  | .jr_NC_e8 => .jr (.cond .nc)
  | .ld_SP_d16 => .ldR16D16 .sp
  | .ld_atHLdec_A => .ldMA .hlDec
  | .inc_SP => .incR16 .sp
  | .inc_atHL => .incR8 .hlInd
  | .dec_atHL => .decR8 .hlInd
  | .ld_atHL_d8 => .ldR8D8 .hlInd
  | .scf => .scf
  | .jr_C_e8 => .jr (.cond .c)
  | .add_HL_SP => .addHLR16 .sp
  | .ld_A_atHLdec => .ldAM .hlDec
  | .dec_SP => .decR16 .sp
  | .inc_A => .incR8 .a
  | .dec_A => .decR8 .a
  | .ld_A_d8 => .ldR8D8 .a
  | .ccf => .ccf
  | .ld_B_B => .ldR8R8 .b .b
  | .ld_B_C => .ldR8R8 .b .c
  | .ld_B_D => .ldR8R8 .b .d
  | .ld_B_E => .ldR8R8 .b .e
  | .ld_B_H => .ldR8R8 .b .h
  | .ld_B_L => .ldR8R8 .b .l
  | .ld_B_atHL => .ldR8R8 .b .hlInd
  | .ld_B_A => .ldR8R8 .b .a
  | .ld_C_B => .ldR8R8 .c .b
  | .ld_C_C => .ldR8R8 .c .c
  | .ld_C_D => .ldR8R8 .c .d
  | .ld_C_E => .ldR8R8 .c .e
  | .ld_C_H => .ldR8R8 .c .h
  | .ld_C_L => .ldR8R8 .c .l
  | .ld_C_atHL => .ldR8R8 .c .hlInd
  | .ld_C_A => .ldR8R8 .c .a
  | .ld_D_B => .ldR8R8 .d .b
  | .ld_D_C => .ldR8R8 .d .c
  | .ld_D_D => .ldR8R8 .d .d
  | .ld_D_E => .ldR8R8 .d .e
  | .ld_D_H => .ldR8R8 .d .h
  | .ld_D_L => .ldR8R8 .d .l
  | .ld_D_atHL => .ldR8R8 .d .hlInd
  | .ld_D_A => .ldR8R8 .d .a
  | .ld_E_B => .ldR8R8 .e .b
  | .ld_E_C => .ldR8R8 .e .c
  | .ld_E_D => .ldR8R8 .e .d
  | .ld_E_E => .ldR8R8 .e .e
  | .ld_E_H => .ldR8R8 .e .h
  | .ld_E_L => .ldR8R8 .e .l
  | .ld_E_atHL => .ldR8R8 .e .hlInd
  | .ld_E_A => .ldR8R8 .e .a
  | .ld_H_B => .ldR8R8 .h .b
  | .ld_H_C => .ldR8R8 .h .c
  | .ld_H_D => .ldR8R8 .h .d
  | .ld_H_E => .ldR8R8 .h .e
  | .ld_H_H => .ldR8R8 .h .h
  | .ld_H_L => .ldR8R8 .h .l
  | .ld_H_atHL => .ldR8R8 .h .hlInd
  | .ld_H_A => .ldR8R8 .h .a
  | .ld_L_B => .ldR8R8 .l .b
  | .ld_L_C => .ldR8R8 .l .c
  | .ld_L_D => .ldR8R8 .l .d
  | .ld_L_E => .ldR8R8 .l .e
  | .ld_L_H => .ldR8R8 .l .h
  | .ld_L_L => .ldR8R8 .l .l
  | .ld_L_atHL => .ldR8R8 .l .hlInd
  | .ld_L_A => .ldR8R8 .l .a
  | .ld_atHL_B => .ldR8R8 .hlInd .b
  | .ld_atHL_C => .ldR8R8 .hlInd .c
  | .ld_atHL_D => .ldR8R8 .hlInd .d
  | .ld_atHL_E => .ldR8R8 .hlInd .e
  | .ld_atHL_H => .ldR8R8 .hlInd .h
  | .ld_atHL_L => .ldR8R8 .hlInd .l
  | .halt => .halt
  | .ld_atHL_A => .ldR8R8 .hlInd .a
  | .ld_A_B => .ldR8R8 .a .b
  | .ld_A_C => .ldR8R8 .a .c
  | .ld_A_D => .ldR8R8 .a .d
  | .ld_A_E => .ldR8R8 .a .e
  | .ld_A_H => .ldR8R8 .a .h
  | .ld_A_L => .ldR8R8 .a .l
  | .ld_A_atHL => .ldR8R8 .a .hlInd
  | .ld_A_A => .ldR8R8 .a .a
  | .add_A_B => .aluR8 .add .b
  | .add_A_C => .aluR8 .add .c
  | .add_A_D => .aluR8 .add .d
  | .add_A_E => .aluR8 .add .e
  | .add_A_H => .aluR8 .add .h
  | .add_A_L => .aluR8 .add .l
  | .add_A_atHL => .aluR8 .add .hlInd
  | .add_A_A => .aluR8 .add .a
  | .adc_A_B => .aluR8 .adc .b
  | .adc_A_C => .aluR8 .adc .c
  | .adc_A_D => .aluR8 .adc .d
  | .adc_A_E => .aluR8 .adc .e
  | .adc_A_H => .aluR8 .adc .h
  | .adc_A_L => .aluR8 .adc .l
  | .adc_A_atHL => .aluR8 .adc .hlInd
  | .adc_A_A => .aluR8 .adc .a
  | .sub_A_B => .aluR8 .sub .b
  | .sub_A_C => .aluR8 .sub .c
  | .sub_A_D => .aluR8 .sub .d
  | .sub_A_E => .aluR8 .sub .e
  | .sub_A_H => .aluR8 .sub .h
  | .sub_A_L => .aluR8 .sub .l
  | .sub_A_atHL => .aluR8 .sub .hlInd
  | .sub_A_A => .aluR8 .sub .a
  | .sbc_A_B => .aluR8 .sbc .b
  | .sbc_A_C => .aluR8 .sbc .c
  | .sbc_A_D => .aluR8 .sbc .d
  | .sbc_A_E => .aluR8 .sbc .e
  | .sbc_A_H => .aluR8 .sbc .h
  | .sbc_A_L => .aluR8 .sbc .l
  | .sbc_A_atHL => .aluR8 .sbc .hlInd
  | .sbc_A_A => .aluR8 .sbc .a
  | .and_A_B => .aluR8 .and .b
  | .and_A_C => .aluR8 .and .c
  | .and_A_D => .aluR8 .and .d
  | .and_A_E => .aluR8 .and .e
  | .and_A_H => .aluR8 .and .h
  | .and_A_L => .aluR8 .and .l
  | .and_A_atHL => .aluR8 .and .hlInd
  | .and_A_A => .aluR8 .and .a
  | .xor_A_B => .aluR8 .xor .b
  | .xor_A_C => .aluR8 .xor .c
  | .xor_A_D => .aluR8 .xor .d
  | .xor_A_E => .aluR8 .xor .e
  | .xor_A_H => .aluR8 .xor .h
  | .xor_A_L => .aluR8 .xor .l
  | .xor_A_atHL => .aluR8 .xor .hlInd
  | .xor_A_A => .aluR8 .xor .a
  | .or_A_B => .aluR8 .or .b
  | .or_A_C => .aluR8 .or .c
  | .or_A_D => .aluR8 .or .d
  | .or_A_E => .aluR8 .or .e
  | .or_A_H => .aluR8 .or .h
  | .or_A_L => .aluR8 .or .l
  | .or_A_atHL => .aluR8 .or .hlInd
  | .or_A_A => .aluR8 .or .a
  | .cp_A_B => .aluR8 .cp .b
  | .cp_A_C => .aluR8 .cp .c
  | .cp_A_D => .aluR8 .cp .d
  | .cp_A_E => .aluR8 .cp .e
  | .cp_A_H => .aluR8 .cp .h
  | .cp_A_L => .aluR8 .cp .l
  | .cp_A_atHL => .aluR8 .cp .hlInd
  | .cp_A_A => .aluR8 .cp .a
  | .ret_NZ => .retCC .nz
  | .pop_BC => .pop .bc
  | .jp_NZ_a16 => .jp (.cond .nz)
  | .jp_a16 => .jp .always
  | .call_NZ_a16 => .call (.cond .nz)
  | .push_BC => .push .bc
  | .add_A_d8 => .aluD8 .add
  | .rst_00 => .rst 0
  | .ret_Z => .retCC .z
  | .ret => .ret
  | .jp_Z_a16 => .jp (.cond .z)
  | .call_Z_a16 => .call (.cond .z)
  | .call_a16 => .call .always
  | .adc_A_d8 => .aluD8 .adc
  | .rst_08 => .rst 1
  | .ret_NC => .retCC .nc
  | .pop_DE => .pop .de
  | .jp_NC_a16 => .jp (.cond .nc)
  | .call_NC_a16 => .call (.cond .nc)
  | .push_DE => .push .de
  | .sub_A_d8 => .aluD8 .sub
  | .rst_10 => .rst 2
  | .ret_C => .retCC .c
  | .reti => .reti
  | .jp_C_a16 => .jp (.cond .c)
  | .call_C_a16 => .call (.cond .c)
  | .sbc_A_d8 => .aluD8 .sbc
  | .rst_18 => .rst 3
  | .ldh_atA8_A => .ldhA8A
  | .pop_HL => .pop .hl
  | .ldh_atC_A => .ldhCA
  | .push_HL => .push .hl
  | .and_A_d8 => .aluD8 .and
  | .rst_20 => .rst 4
  | .add_SP_e8 => .addSPe8
  | .jp_HL => .jpHL
  | .ld_atA16_A => .ldA16A
  | .xor_A_d8 => .aluD8 .xor
  | .rst_28 => .rst 5
  | .ldh_A_atA8 => .ldhAA8
  | .pop_AF => .pop .af
  | .ldh_A_atC => .ldhAC
  | .di => .di
  | .push_AF => .push .af
  | .or_A_d8 => .aluD8 .or
  | .rst_30 => .rst 6
  | .ld_HL_SPe8 => .ldHLSPe8
  | .ld_SP_HL => .ldSPHL
  | .ld_A_atA16 => .ldAA16
  | .ei => .ei
  | .cp_A_d8 => .aluD8 .cp
  | .rst_38 => .rst 7
  | .rlc_B => .rot .rlc .b
  | .rlc_C => .rot .rlc .c
  | .rlc_D => .rot .rlc .d
  | .rlc_E => .rot .rlc .e
  | .rlc_H => .rot .rlc .h
  | .rlc_L => .rot .rlc .l
  | .rlc_atHL => .rot .rlc .hlInd
  | .rlc_A => .rot .rlc .a
  | .rrc_B => .rot .rrc .b
  | .rrc_C => .rot .rrc .c
  | .rrc_D => .rot .rrc .d
  | .rrc_E => .rot .rrc .e
  | .rrc_H => .rot .rrc .h
  | .rrc_L => .rot .rrc .l
  | .rrc_atHL => .rot .rrc .hlInd
  | .rrc_A => .rot .rrc .a
  | .rl_B => .rot .rl .b
  | .rl_C => .rot .rl .c
  | .rl_D => .rot .rl .d
  | .rl_E => .rot .rl .e
  | .rl_H => .rot .rl .h
  | .rl_L => .rot .rl .l
  | .rl_atHL => .rot .rl .hlInd
  | .rl_A => .rot .rl .a
  | .rr_B => .rot .rr .b
  | .rr_C => .rot .rr .c
  | .rr_D => .rot .rr .d
  | .rr_E => .rot .rr .e
  | .rr_H => .rot .rr .h
  | .rr_L => .rot .rr .l
  | .rr_atHL => .rot .rr .hlInd
  | .rr_A => .rot .rr .a
  | .sla_B => .rot .sla .b
  | .sla_C => .rot .sla .c
  | .sla_D => .rot .sla .d
  | .sla_E => .rot .sla .e
  | .sla_H => .rot .sla .h
  | .sla_L => .rot .sla .l
  | .sla_atHL => .rot .sla .hlInd
  | .sla_A => .rot .sla .a
  | .sra_B => .rot .sra .b
  | .sra_C => .rot .sra .c
  | .sra_D => .rot .sra .d
  | .sra_E => .rot .sra .e
  | .sra_H => .rot .sra .h
  | .sra_L => .rot .sra .l
  | .sra_atHL => .rot .sra .hlInd
  | .sra_A => .rot .sra .a
  | .swap_B => .rot .swap .b
  | .swap_C => .rot .swap .c
  | .swap_D => .rot .swap .d
  | .swap_E => .rot .swap .e
  | .swap_H => .rot .swap .h
  | .swap_L => .rot .swap .l
  | .swap_atHL => .rot .swap .hlInd
  | .swap_A => .rot .swap .a
  | .srl_B => .rot .srl .b
  | .srl_C => .rot .srl .c
  | .srl_D => .rot .srl .d
  | .srl_E => .rot .srl .e
  | .srl_H => .rot .srl .h
  | .srl_L => .rot .srl .l
  | .srl_atHL => .rot .srl .hlInd
  | .srl_A => .rot .srl .a
  | .bit_0_B => .testBit 0 .b
  | .bit_0_C => .testBit 0 .c
  | .bit_0_D => .testBit 0 .d
  | .bit_0_E => .testBit 0 .e
  | .bit_0_H => .testBit 0 .h
  | .bit_0_L => .testBit 0 .l
  | .bit_0_atHL => .testBit 0 .hlInd
  | .bit_0_A => .testBit 0 .a
  | .bit_1_B => .testBit 1 .b
  | .bit_1_C => .testBit 1 .c
  | .bit_1_D => .testBit 1 .d
  | .bit_1_E => .testBit 1 .e
  | .bit_1_H => .testBit 1 .h
  | .bit_1_L => .testBit 1 .l
  | .bit_1_atHL => .testBit 1 .hlInd
  | .bit_1_A => .testBit 1 .a
  | .bit_2_B => .testBit 2 .b
  | .bit_2_C => .testBit 2 .c
  | .bit_2_D => .testBit 2 .d
  | .bit_2_E => .testBit 2 .e
  | .bit_2_H => .testBit 2 .h
  | .bit_2_L => .testBit 2 .l
  | .bit_2_atHL => .testBit 2 .hlInd
  | .bit_2_A => .testBit 2 .a
  | .bit_3_B => .testBit 3 .b
  | .bit_3_C => .testBit 3 .c
  | .bit_3_D => .testBit 3 .d
  | .bit_3_E => .testBit 3 .e
  | .bit_3_H => .testBit 3 .h
  | .bit_3_L => .testBit 3 .l
  | .bit_3_atHL => .testBit 3 .hlInd
  | .bit_3_A => .testBit 3 .a
  | .bit_4_B => .testBit 4 .b
  | .bit_4_C => .testBit 4 .c
  | .bit_4_D => .testBit 4 .d
  | .bit_4_E => .testBit 4 .e
  | .bit_4_H => .testBit 4 .h
  | .bit_4_L => .testBit 4 .l
  | .bit_4_atHL => .testBit 4 .hlInd
  | .bit_4_A => .testBit 4 .a
  | .bit_5_B => .testBit 5 .b
  | .bit_5_C => .testBit 5 .c
  | .bit_5_D => .testBit 5 .d
  | .bit_5_E => .testBit 5 .e
  | .bit_5_H => .testBit 5 .h
  | .bit_5_L => .testBit 5 .l
  | .bit_5_atHL => .testBit 5 .hlInd
  | .bit_5_A => .testBit 5 .a
  | .bit_6_B => .testBit 6 .b
  | .bit_6_C => .testBit 6 .c
  | .bit_6_D => .testBit 6 .d
  | .bit_6_E => .testBit 6 .e
  | .bit_6_H => .testBit 6 .h
  | .bit_6_L => .testBit 6 .l
  | .bit_6_atHL => .testBit 6 .hlInd
  | .bit_6_A => .testBit 6 .a
  | .bit_7_B => .testBit 7 .b
  | .bit_7_C => .testBit 7 .c
  | .bit_7_D => .testBit 7 .d
  | .bit_7_E => .testBit 7 .e
  | .bit_7_H => .testBit 7 .h
  | .bit_7_L => .testBit 7 .l
  | .bit_7_atHL => .testBit 7 .hlInd
  | .bit_7_A => .testBit 7 .a
  | .res_0_B => .resetBit 0 .b
  | .res_0_C => .resetBit 0 .c
  | .res_0_D => .resetBit 0 .d
  | .res_0_E => .resetBit 0 .e
  | .res_0_H => .resetBit 0 .h
  | .res_0_L => .resetBit 0 .l
  | .res_0_atHL => .resetBit 0 .hlInd
  | .res_0_A => .resetBit 0 .a
  | .res_1_B => .resetBit 1 .b
  | .res_1_C => .resetBit 1 .c
  | .res_1_D => .resetBit 1 .d
  | .res_1_E => .resetBit 1 .e
  | .res_1_H => .resetBit 1 .h
  | .res_1_L => .resetBit 1 .l
  | .res_1_atHL => .resetBit 1 .hlInd
  | .res_1_A => .resetBit 1 .a
  | .res_2_B => .resetBit 2 .b
  | .res_2_C => .resetBit 2 .c
  | .res_2_D => .resetBit 2 .d
  | .res_2_E => .resetBit 2 .e
  | .res_2_H => .resetBit 2 .h
  | .res_2_L => .resetBit 2 .l
  | .res_2_atHL => .resetBit 2 .hlInd
  | .res_2_A => .resetBit 2 .a
  | .res_3_B => .resetBit 3 .b
  | .res_3_C => .resetBit 3 .c
  | .res_3_D => .resetBit 3 .d
  | .res_3_E => .resetBit 3 .e
  | .res_3_H => .resetBit 3 .h
  | .res_3_L => .resetBit 3 .l
  | .res_3_atHL => .resetBit 3 .hlInd
  | .res_3_A => .resetBit 3 .a
  | .res_4_B => .resetBit 4 .b
  | .res_4_C => .resetBit 4 .c
  | .res_4_D => .resetBit 4 .d
  | .res_4_E => .resetBit 4 .e
  | .res_4_H => .resetBit 4 .h
  | .res_4_L => .resetBit 4 .l
  | .res_4_atHL => .resetBit 4 .hlInd
  | .res_4_A => .resetBit 4 .a
  | .res_5_B => .resetBit 5 .b
  | .res_5_C => .resetBit 5 .c
  | .res_5_D => .resetBit 5 .d
  | .res_5_E => .resetBit 5 .e
  | .res_5_H => .resetBit 5 .h
  | .res_5_L => .resetBit 5 .l
  | .res_5_atHL => .resetBit 5 .hlInd
  | .res_5_A => .resetBit 5 .a
  | .res_6_B => .resetBit 6 .b
  | .res_6_C => .resetBit 6 .c
  | .res_6_D => .resetBit 6 .d
  | .res_6_E => .resetBit 6 .e
  | .res_6_H => .resetBit 6 .h
  | .res_6_L => .resetBit 6 .l
  | .res_6_atHL => .resetBit 6 .hlInd
  | .res_6_A => .resetBit 6 .a
  | .res_7_B => .resetBit 7 .b
  | .res_7_C => .resetBit 7 .c
  | .res_7_D => .resetBit 7 .d
  | .res_7_E => .resetBit 7 .e
  | .res_7_H => .resetBit 7 .h
  | .res_7_L => .resetBit 7 .l
  | .res_7_atHL => .resetBit 7 .hlInd
  | .res_7_A => .resetBit 7 .a
  | .set_0_B => .setBit 0 .b
  | .set_0_C => .setBit 0 .c
  | .set_0_D => .setBit 0 .d
  | .set_0_E => .setBit 0 .e
  | .set_0_H => .setBit 0 .h
  | .set_0_L => .setBit 0 .l
  | .set_0_atHL => .setBit 0 .hlInd
  | .set_0_A => .setBit 0 .a
  | .set_1_B => .setBit 1 .b
  | .set_1_C => .setBit 1 .c
  | .set_1_D => .setBit 1 .d
  | .set_1_E => .setBit 1 .e
  | .set_1_H => .setBit 1 .h
  | .set_1_L => .setBit 1 .l
  | .set_1_atHL => .setBit 1 .hlInd
  | .set_1_A => .setBit 1 .a
  | .set_2_B => .setBit 2 .b
  | .set_2_C => .setBit 2 .c
  | .set_2_D => .setBit 2 .d
  | .set_2_E => .setBit 2 .e
  | .set_2_H => .setBit 2 .h
  | .set_2_L => .setBit 2 .l
  | .set_2_atHL => .setBit 2 .hlInd
  | .set_2_A => .setBit 2 .a
  | .set_3_B => .setBit 3 .b
  | .set_3_C => .setBit 3 .c
  | .set_3_D => .setBit 3 .d
  | .set_3_E => .setBit 3 .e
  | .set_3_H => .setBit 3 .h
  | .set_3_L => .setBit 3 .l
  | .set_3_atHL => .setBit 3 .hlInd
  | .set_3_A => .setBit 3 .a
  | .set_4_B => .setBit 4 .b
  | .set_4_C => .setBit 4 .c
  | .set_4_D => .setBit 4 .d
  | .set_4_E => .setBit 4 .e
  | .set_4_H => .setBit 4 .h
  | .set_4_L => .setBit 4 .l
  | .set_4_atHL => .setBit 4 .hlInd
  | .set_4_A => .setBit 4 .a
  | .set_5_B => .setBit 5 .b
  | .set_5_C => .setBit 5 .c
  | .set_5_D => .setBit 5 .d
  | .set_5_E => .setBit 5 .e
  | .set_5_H => .setBit 5 .h
  | .set_5_L => .setBit 5 .l
  | .set_5_atHL => .setBit 5 .hlInd
  | .set_5_A => .setBit 5 .a
  | .set_6_B => .setBit 6 .b
  | .set_6_C => .setBit 6 .c
  | .set_6_D => .setBit 6 .d
  | .set_6_E => .setBit 6 .e
  | .set_6_H => .setBit 6 .h
  | .set_6_L => .setBit 6 .l
  | .set_6_atHL => .setBit 6 .hlInd
  | .set_6_A => .setBit 6 .a
  | .set_7_B => .setBit 7 .b
  | .set_7_C => .setBit 7 .c
  | .set_7_D => .setBit 7 .d
  | .set_7_E => .setBit 7 .e
  | .set_7_H => .setBit 7 .h
  | .set_7_L => .setBit 7 .l
  | .set_7_atHL => .setBit 7 .hlInd
  | .set_7_A => .setBit 7 .a

/-! ### The decoder -/

/-- The decoder over the parameter `ADMITTED` (R331): the instruction of an admitted defined entry, and none, the
unimplemented marker, for every other entry. -/
def decodeAdmitting (admitted : Bool → Byte → Bool) (op : Byte) (isPrefixed : Bool) : Option Instr :=
  match decodeForm op isPrefixed with
  | some f => if admitted isPrefixed op then some f.instr else none
  | none => none

/-- `decode(opcode, prefixed)` (R320), at this machine's `ADMITTED`. -/
def decode (op : Byte) (isPrefixed : Bool) : Option Instr :=
  decodeAdmitting Config.admitted op isPrefixed

/-- Why the decoder refuses a string of bytes. -/
inductive DecodeError where
  /-- The opcode byte of this table is the unimplemented marker (R325, R326, R331). -/
  | unimplemented (opcode : Byte) (isPrefixed : Bool)
  /-- The bytes end before the instruction does (R301). -/
  | truncated
deriving DecidableEq, Repr

/-- An instruction with the operand bytes that stand after its opcode in memory (R302, R319). -/
structure Assembled where
  instr    : Instr
  operands : List Byte
deriving DecidableEq, Repr

/-! ### The rows of opcode_table.json -/

/-- The row of an instruction: table, opcode, length, and the flags column Z, N, H, C (R334). -/
def Instr.row : Instr → TableRow
  | .nop => ⟨false, 0x00#8, 1, .keep, .keep, .keep, .keep⟩
  | .ld_BC_d16 => ⟨false, 0x01#8, 3, .keep, .keep, .keep, .keep⟩
  | .ld_atBC_A => ⟨false, 0x02#8, 1, .keep, .keep, .keep, .keep⟩
  | .inc_BC => ⟨false, 0x03#8, 1, .keep, .keep, .keep, .keep⟩
  | .inc_B => ⟨false, 0x04#8, 1, .computed, .zero, .computed, .keep⟩
  | .dec_B => ⟨false, 0x05#8, 1, .computed, .one, .computed, .keep⟩
  | .ld_B_d8 => ⟨false, 0x06#8, 2, .keep, .keep, .keep, .keep⟩
  | .rlca => ⟨false, 0x07#8, 1, .zero, .zero, .zero, .computed⟩
  | .ld_atA16_SP => ⟨false, 0x08#8, 3, .keep, .keep, .keep, .keep⟩
  | .add_HL_BC => ⟨false, 0x09#8, 1, .keep, .zero, .computed, .computed⟩
  | .ld_A_atBC => ⟨false, 0x0A#8, 1, .keep, .keep, .keep, .keep⟩
  | .dec_BC => ⟨false, 0x0B#8, 1, .keep, .keep, .keep, .keep⟩
  | .inc_C => ⟨false, 0x0C#8, 1, .computed, .zero, .computed, .keep⟩
  | .dec_C => ⟨false, 0x0D#8, 1, .computed, .one, .computed, .keep⟩
  | .ld_C_d8 => ⟨false, 0x0E#8, 2, .keep, .keep, .keep, .keep⟩
  | .rrca => ⟨false, 0x0F#8, 1, .zero, .zero, .zero, .computed⟩
  | .stop => ⟨false, 0x10#8, 2, .keep, .keep, .keep, .keep⟩
  | .ld_DE_d16 => ⟨false, 0x11#8, 3, .keep, .keep, .keep, .keep⟩
  | .ld_atDE_A => ⟨false, 0x12#8, 1, .keep, .keep, .keep, .keep⟩
  | .inc_DE => ⟨false, 0x13#8, 1, .keep, .keep, .keep, .keep⟩
  | .inc_D => ⟨false, 0x14#8, 1, .computed, .zero, .computed, .keep⟩
  | .dec_D => ⟨false, 0x15#8, 1, .computed, .one, .computed, .keep⟩
  | .ld_D_d8 => ⟨false, 0x16#8, 2, .keep, .keep, .keep, .keep⟩
  | .rla => ⟨false, 0x17#8, 1, .zero, .zero, .zero, .computed⟩
  | .jr_e8 => ⟨false, 0x18#8, 2, .keep, .keep, .keep, .keep⟩
  | .add_HL_DE => ⟨false, 0x19#8, 1, .keep, .zero, .computed, .computed⟩
  | .ld_A_atDE => ⟨false, 0x1A#8, 1, .keep, .keep, .keep, .keep⟩
  | .dec_DE => ⟨false, 0x1B#8, 1, .keep, .keep, .keep, .keep⟩
  | .inc_E => ⟨false, 0x1C#8, 1, .computed, .zero, .computed, .keep⟩
  | .dec_E => ⟨false, 0x1D#8, 1, .computed, .one, .computed, .keep⟩
  | .ld_E_d8 => ⟨false, 0x1E#8, 2, .keep, .keep, .keep, .keep⟩
  | .rra => ⟨false, 0x1F#8, 1, .zero, .zero, .zero, .computed⟩
  | .jr_NZ_e8 => ⟨false, 0x20#8, 2, .keep, .keep, .keep, .keep⟩
  | .ld_HL_d16 => ⟨false, 0x21#8, 3, .keep, .keep, .keep, .keep⟩
  | .ld_atHLinc_A => ⟨false, 0x22#8, 1, .keep, .keep, .keep, .keep⟩
  | .inc_HL => ⟨false, 0x23#8, 1, .keep, .keep, .keep, .keep⟩
  | .inc_H => ⟨false, 0x24#8, 1, .computed, .zero, .computed, .keep⟩
  | .dec_H => ⟨false, 0x25#8, 1, .computed, .one, .computed, .keep⟩
  | .ld_H_d8 => ⟨false, 0x26#8, 2, .keep, .keep, .keep, .keep⟩
  | .daa => ⟨false, 0x27#8, 1, .computed, .keep, .zero, .computed⟩
  | .jr_Z_e8 => ⟨false, 0x28#8, 2, .keep, .keep, .keep, .keep⟩
  | .add_HL_HL => ⟨false, 0x29#8, 1, .keep, .zero, .computed, .computed⟩
  | .ld_A_atHLinc => ⟨false, 0x2A#8, 1, .keep, .keep, .keep, .keep⟩
  | .dec_HL => ⟨false, 0x2B#8, 1, .keep, .keep, .keep, .keep⟩
  | .inc_L => ⟨false, 0x2C#8, 1, .computed, .zero, .computed, .keep⟩
  | .dec_L => ⟨false, 0x2D#8, 1, .computed, .one, .computed, .keep⟩
  | .ld_L_d8 => ⟨false, 0x2E#8, 2, .keep, .keep, .keep, .keep⟩
  | .cpl => ⟨false, 0x2F#8, 1, .keep, .one, .one, .keep⟩
  | .jr_NC_e8 => ⟨false, 0x30#8, 2, .keep, .keep, .keep, .keep⟩
  | .ld_SP_d16 => ⟨false, 0x31#8, 3, .keep, .keep, .keep, .keep⟩
  | .ld_atHLdec_A => ⟨false, 0x32#8, 1, .keep, .keep, .keep, .keep⟩
  | .inc_SP => ⟨false, 0x33#8, 1, .keep, .keep, .keep, .keep⟩
  | .inc_atHL => ⟨false, 0x34#8, 1, .computed, .zero, .computed, .keep⟩
  | .dec_atHL => ⟨false, 0x35#8, 1, .computed, .one, .computed, .keep⟩
  | .ld_atHL_d8 => ⟨false, 0x36#8, 2, .keep, .keep, .keep, .keep⟩
  | .scf => ⟨false, 0x37#8, 1, .keep, .zero, .zero, .one⟩
  | .jr_C_e8 => ⟨false, 0x38#8, 2, .keep, .keep, .keep, .keep⟩
  | .add_HL_SP => ⟨false, 0x39#8, 1, .keep, .zero, .computed, .computed⟩
  | .ld_A_atHLdec => ⟨false, 0x3A#8, 1, .keep, .keep, .keep, .keep⟩
  | .dec_SP => ⟨false, 0x3B#8, 1, .keep, .keep, .keep, .keep⟩
  | .inc_A => ⟨false, 0x3C#8, 1, .computed, .zero, .computed, .keep⟩
  | .dec_A => ⟨false, 0x3D#8, 1, .computed, .one, .computed, .keep⟩
  | .ld_A_d8 => ⟨false, 0x3E#8, 2, .keep, .keep, .keep, .keep⟩
  | .ccf => ⟨false, 0x3F#8, 1, .keep, .zero, .zero, .computed⟩
  | .ld_B_B => ⟨false, 0x40#8, 1, .keep, .keep, .keep, .keep⟩
  | .ld_B_C => ⟨false, 0x41#8, 1, .keep, .keep, .keep, .keep⟩
  | .ld_B_D => ⟨false, 0x42#8, 1, .keep, .keep, .keep, .keep⟩
  | .ld_B_E => ⟨false, 0x43#8, 1, .keep, .keep, .keep, .keep⟩
  | .ld_B_H => ⟨false, 0x44#8, 1, .keep, .keep, .keep, .keep⟩
  | .ld_B_L => ⟨false, 0x45#8, 1, .keep, .keep, .keep, .keep⟩
  | .ld_B_atHL => ⟨false, 0x46#8, 1, .keep, .keep, .keep, .keep⟩
  | .ld_B_A => ⟨false, 0x47#8, 1, .keep, .keep, .keep, .keep⟩
  | .ld_C_B => ⟨false, 0x48#8, 1, .keep, .keep, .keep, .keep⟩
  | .ld_C_C => ⟨false, 0x49#8, 1, .keep, .keep, .keep, .keep⟩
  | .ld_C_D => ⟨false, 0x4A#8, 1, .keep, .keep, .keep, .keep⟩
  | .ld_C_E => ⟨false, 0x4B#8, 1, .keep, .keep, .keep, .keep⟩
  | .ld_C_H => ⟨false, 0x4C#8, 1, .keep, .keep, .keep, .keep⟩
  | .ld_C_L => ⟨false, 0x4D#8, 1, .keep, .keep, .keep, .keep⟩
  | .ld_C_atHL => ⟨false, 0x4E#8, 1, .keep, .keep, .keep, .keep⟩
  | .ld_C_A => ⟨false, 0x4F#8, 1, .keep, .keep, .keep, .keep⟩
  | .ld_D_B => ⟨false, 0x50#8, 1, .keep, .keep, .keep, .keep⟩
  | .ld_D_C => ⟨false, 0x51#8, 1, .keep, .keep, .keep, .keep⟩
  | .ld_D_D => ⟨false, 0x52#8, 1, .keep, .keep, .keep, .keep⟩
  | .ld_D_E => ⟨false, 0x53#8, 1, .keep, .keep, .keep, .keep⟩
  | .ld_D_H => ⟨false, 0x54#8, 1, .keep, .keep, .keep, .keep⟩
  | .ld_D_L => ⟨false, 0x55#8, 1, .keep, .keep, .keep, .keep⟩
  | .ld_D_atHL => ⟨false, 0x56#8, 1, .keep, .keep, .keep, .keep⟩
  | .ld_D_A => ⟨false, 0x57#8, 1, .keep, .keep, .keep, .keep⟩
  | .ld_E_B => ⟨false, 0x58#8, 1, .keep, .keep, .keep, .keep⟩
  | .ld_E_C => ⟨false, 0x59#8, 1, .keep, .keep, .keep, .keep⟩
  | .ld_E_D => ⟨false, 0x5A#8, 1, .keep, .keep, .keep, .keep⟩
  | .ld_E_E => ⟨false, 0x5B#8, 1, .keep, .keep, .keep, .keep⟩
  | .ld_E_H => ⟨false, 0x5C#8, 1, .keep, .keep, .keep, .keep⟩
  | .ld_E_L => ⟨false, 0x5D#8, 1, .keep, .keep, .keep, .keep⟩
  | .ld_E_atHL => ⟨false, 0x5E#8, 1, .keep, .keep, .keep, .keep⟩
  | .ld_E_A => ⟨false, 0x5F#8, 1, .keep, .keep, .keep, .keep⟩
  | .ld_H_B => ⟨false, 0x60#8, 1, .keep, .keep, .keep, .keep⟩
  | .ld_H_C => ⟨false, 0x61#8, 1, .keep, .keep, .keep, .keep⟩
  | .ld_H_D => ⟨false, 0x62#8, 1, .keep, .keep, .keep, .keep⟩
  | .ld_H_E => ⟨false, 0x63#8, 1, .keep, .keep, .keep, .keep⟩
  | .ld_H_H => ⟨false, 0x64#8, 1, .keep, .keep, .keep, .keep⟩
  | .ld_H_L => ⟨false, 0x65#8, 1, .keep, .keep, .keep, .keep⟩
  | .ld_H_atHL => ⟨false, 0x66#8, 1, .keep, .keep, .keep, .keep⟩
  | .ld_H_A => ⟨false, 0x67#8, 1, .keep, .keep, .keep, .keep⟩
  | .ld_L_B => ⟨false, 0x68#8, 1, .keep, .keep, .keep, .keep⟩
  | .ld_L_C => ⟨false, 0x69#8, 1, .keep, .keep, .keep, .keep⟩
  | .ld_L_D => ⟨false, 0x6A#8, 1, .keep, .keep, .keep, .keep⟩
  | .ld_L_E => ⟨false, 0x6B#8, 1, .keep, .keep, .keep, .keep⟩
  | .ld_L_H => ⟨false, 0x6C#8, 1, .keep, .keep, .keep, .keep⟩
  | .ld_L_L => ⟨false, 0x6D#8, 1, .keep, .keep, .keep, .keep⟩
  | .ld_L_atHL => ⟨false, 0x6E#8, 1, .keep, .keep, .keep, .keep⟩
  | .ld_L_A => ⟨false, 0x6F#8, 1, .keep, .keep, .keep, .keep⟩
  | .ld_atHL_B => ⟨false, 0x70#8, 1, .keep, .keep, .keep, .keep⟩
  | .ld_atHL_C => ⟨false, 0x71#8, 1, .keep, .keep, .keep, .keep⟩
  | .ld_atHL_D => ⟨false, 0x72#8, 1, .keep, .keep, .keep, .keep⟩
  | .ld_atHL_E => ⟨false, 0x73#8, 1, .keep, .keep, .keep, .keep⟩
  | .ld_atHL_H => ⟨false, 0x74#8, 1, .keep, .keep, .keep, .keep⟩
  | .ld_atHL_L => ⟨false, 0x75#8, 1, .keep, .keep, .keep, .keep⟩
  | .halt => ⟨false, 0x76#8, 1, .keep, .keep, .keep, .keep⟩
  | .ld_atHL_A => ⟨false, 0x77#8, 1, .keep, .keep, .keep, .keep⟩
  | .ld_A_B => ⟨false, 0x78#8, 1, .keep, .keep, .keep, .keep⟩
  | .ld_A_C => ⟨false, 0x79#8, 1, .keep, .keep, .keep, .keep⟩
  | .ld_A_D => ⟨false, 0x7A#8, 1, .keep, .keep, .keep, .keep⟩
  | .ld_A_E => ⟨false, 0x7B#8, 1, .keep, .keep, .keep, .keep⟩
  | .ld_A_H => ⟨false, 0x7C#8, 1, .keep, .keep, .keep, .keep⟩
  | .ld_A_L => ⟨false, 0x7D#8, 1, .keep, .keep, .keep, .keep⟩
  | .ld_A_atHL => ⟨false, 0x7E#8, 1, .keep, .keep, .keep, .keep⟩
  | .ld_A_A => ⟨false, 0x7F#8, 1, .keep, .keep, .keep, .keep⟩
  | .add_A_B => ⟨false, 0x80#8, 1, .computed, .zero, .computed, .computed⟩
  | .add_A_C => ⟨false, 0x81#8, 1, .computed, .zero, .computed, .computed⟩
  | .add_A_D => ⟨false, 0x82#8, 1, .computed, .zero, .computed, .computed⟩
  | .add_A_E => ⟨false, 0x83#8, 1, .computed, .zero, .computed, .computed⟩
  | .add_A_H => ⟨false, 0x84#8, 1, .computed, .zero, .computed, .computed⟩
  | .add_A_L => ⟨false, 0x85#8, 1, .computed, .zero, .computed, .computed⟩
  | .add_A_atHL => ⟨false, 0x86#8, 1, .computed, .zero, .computed, .computed⟩
  | .add_A_A => ⟨false, 0x87#8, 1, .computed, .zero, .computed, .computed⟩
  | .adc_A_B => ⟨false, 0x88#8, 1, .computed, .zero, .computed, .computed⟩
  | .adc_A_C => ⟨false, 0x89#8, 1, .computed, .zero, .computed, .computed⟩
  | .adc_A_D => ⟨false, 0x8A#8, 1, .computed, .zero, .computed, .computed⟩
  | .adc_A_E => ⟨false, 0x8B#8, 1, .computed, .zero, .computed, .computed⟩
  | .adc_A_H => ⟨false, 0x8C#8, 1, .computed, .zero, .computed, .computed⟩
  | .adc_A_L => ⟨false, 0x8D#8, 1, .computed, .zero, .computed, .computed⟩
  | .adc_A_atHL => ⟨false, 0x8E#8, 1, .computed, .zero, .computed, .computed⟩
  | .adc_A_A => ⟨false, 0x8F#8, 1, .computed, .zero, .computed, .computed⟩
  | .sub_A_B => ⟨false, 0x90#8, 1, .computed, .one, .computed, .computed⟩
  | .sub_A_C => ⟨false, 0x91#8, 1, .computed, .one, .computed, .computed⟩
  | .sub_A_D => ⟨false, 0x92#8, 1, .computed, .one, .computed, .computed⟩
  | .sub_A_E => ⟨false, 0x93#8, 1, .computed, .one, .computed, .computed⟩
  | .sub_A_H => ⟨false, 0x94#8, 1, .computed, .one, .computed, .computed⟩
  | .sub_A_L => ⟨false, 0x95#8, 1, .computed, .one, .computed, .computed⟩
  | .sub_A_atHL => ⟨false, 0x96#8, 1, .computed, .one, .computed, .computed⟩
  | .sub_A_A => ⟨false, 0x97#8, 1, .computed, .one, .computed, .computed⟩
  | .sbc_A_B => ⟨false, 0x98#8, 1, .computed, .one, .computed, .computed⟩
  | .sbc_A_C => ⟨false, 0x99#8, 1, .computed, .one, .computed, .computed⟩
  | .sbc_A_D => ⟨false, 0x9A#8, 1, .computed, .one, .computed, .computed⟩
  | .sbc_A_E => ⟨false, 0x9B#8, 1, .computed, .one, .computed, .computed⟩
  | .sbc_A_H => ⟨false, 0x9C#8, 1, .computed, .one, .computed, .computed⟩
  | .sbc_A_L => ⟨false, 0x9D#8, 1, .computed, .one, .computed, .computed⟩
  | .sbc_A_atHL => ⟨false, 0x9E#8, 1, .computed, .one, .computed, .computed⟩
  | .sbc_A_A => ⟨false, 0x9F#8, 1, .computed, .one, .computed, .computed⟩
  | .and_A_B => ⟨false, 0xA0#8, 1, .computed, .zero, .one, .zero⟩
  | .and_A_C => ⟨false, 0xA1#8, 1, .computed, .zero, .one, .zero⟩
  | .and_A_D => ⟨false, 0xA2#8, 1, .computed, .zero, .one, .zero⟩
  | .and_A_E => ⟨false, 0xA3#8, 1, .computed, .zero, .one, .zero⟩
  | .and_A_H => ⟨false, 0xA4#8, 1, .computed, .zero, .one, .zero⟩
  | .and_A_L => ⟨false, 0xA5#8, 1, .computed, .zero, .one, .zero⟩
  | .and_A_atHL => ⟨false, 0xA6#8, 1, .computed, .zero, .one, .zero⟩
  | .and_A_A => ⟨false, 0xA7#8, 1, .computed, .zero, .one, .zero⟩
  | .xor_A_B => ⟨false, 0xA8#8, 1, .computed, .zero, .zero, .zero⟩
  | .xor_A_C => ⟨false, 0xA9#8, 1, .computed, .zero, .zero, .zero⟩
  | .xor_A_D => ⟨false, 0xAA#8, 1, .computed, .zero, .zero, .zero⟩
  | .xor_A_E => ⟨false, 0xAB#8, 1, .computed, .zero, .zero, .zero⟩
  | .xor_A_H => ⟨false, 0xAC#8, 1, .computed, .zero, .zero, .zero⟩
  | .xor_A_L => ⟨false, 0xAD#8, 1, .computed, .zero, .zero, .zero⟩
  | .xor_A_atHL => ⟨false, 0xAE#8, 1, .computed, .zero, .zero, .zero⟩
  | .xor_A_A => ⟨false, 0xAF#8, 1, .computed, .zero, .zero, .zero⟩
  | .or_A_B => ⟨false, 0xB0#8, 1, .computed, .zero, .zero, .zero⟩
  | .or_A_C => ⟨false, 0xB1#8, 1, .computed, .zero, .zero, .zero⟩
  | .or_A_D => ⟨false, 0xB2#8, 1, .computed, .zero, .zero, .zero⟩
  | .or_A_E => ⟨false, 0xB3#8, 1, .computed, .zero, .zero, .zero⟩
  | .or_A_H => ⟨false, 0xB4#8, 1, .computed, .zero, .zero, .zero⟩
  | .or_A_L => ⟨false, 0xB5#8, 1, .computed, .zero, .zero, .zero⟩
  | .or_A_atHL => ⟨false, 0xB6#8, 1, .computed, .zero, .zero, .zero⟩
  | .or_A_A => ⟨false, 0xB7#8, 1, .computed, .zero, .zero, .zero⟩
  | .cp_A_B => ⟨false, 0xB8#8, 1, .computed, .one, .computed, .computed⟩
  | .cp_A_C => ⟨false, 0xB9#8, 1, .computed, .one, .computed, .computed⟩
  | .cp_A_D => ⟨false, 0xBA#8, 1, .computed, .one, .computed, .computed⟩
  | .cp_A_E => ⟨false, 0xBB#8, 1, .computed, .one, .computed, .computed⟩
  | .cp_A_H => ⟨false, 0xBC#8, 1, .computed, .one, .computed, .computed⟩
  | .cp_A_L => ⟨false, 0xBD#8, 1, .computed, .one, .computed, .computed⟩
  | .cp_A_atHL => ⟨false, 0xBE#8, 1, .computed, .one, .computed, .computed⟩
  | .cp_A_A => ⟨false, 0xBF#8, 1, .computed, .one, .computed, .computed⟩
  | .ret_NZ => ⟨false, 0xC0#8, 1, .keep, .keep, .keep, .keep⟩
  | .pop_BC => ⟨false, 0xC1#8, 1, .keep, .keep, .keep, .keep⟩
  | .jp_NZ_a16 => ⟨false, 0xC2#8, 3, .keep, .keep, .keep, .keep⟩
  | .jp_a16 => ⟨false, 0xC3#8, 3, .keep, .keep, .keep, .keep⟩
  | .call_NZ_a16 => ⟨false, 0xC4#8, 3, .keep, .keep, .keep, .keep⟩
  | .push_BC => ⟨false, 0xC5#8, 1, .keep, .keep, .keep, .keep⟩
  | .add_A_d8 => ⟨false, 0xC6#8, 2, .computed, .zero, .computed, .computed⟩
  | .rst_00 => ⟨false, 0xC7#8, 1, .keep, .keep, .keep, .keep⟩
  | .ret_Z => ⟨false, 0xC8#8, 1, .keep, .keep, .keep, .keep⟩
  | .ret => ⟨false, 0xC9#8, 1, .keep, .keep, .keep, .keep⟩
  | .jp_Z_a16 => ⟨false, 0xCA#8, 3, .keep, .keep, .keep, .keep⟩
  | .call_Z_a16 => ⟨false, 0xCC#8, 3, .keep, .keep, .keep, .keep⟩
  | .call_a16 => ⟨false, 0xCD#8, 3, .keep, .keep, .keep, .keep⟩
  | .adc_A_d8 => ⟨false, 0xCE#8, 2, .computed, .zero, .computed, .computed⟩
  | .rst_08 => ⟨false, 0xCF#8, 1, .keep, .keep, .keep, .keep⟩
  | .ret_NC => ⟨false, 0xD0#8, 1, .keep, .keep, .keep, .keep⟩
  | .pop_DE => ⟨false, 0xD1#8, 1, .keep, .keep, .keep, .keep⟩
  | .jp_NC_a16 => ⟨false, 0xD2#8, 3, .keep, .keep, .keep, .keep⟩
  | .call_NC_a16 => ⟨false, 0xD4#8, 3, .keep, .keep, .keep, .keep⟩
  | .push_DE => ⟨false, 0xD5#8, 1, .keep, .keep, .keep, .keep⟩
  | .sub_A_d8 => ⟨false, 0xD6#8, 2, .computed, .one, .computed, .computed⟩
  | .rst_10 => ⟨false, 0xD7#8, 1, .keep, .keep, .keep, .keep⟩
  | .ret_C => ⟨false, 0xD8#8, 1, .keep, .keep, .keep, .keep⟩
  | .reti => ⟨false, 0xD9#8, 1, .keep, .keep, .keep, .keep⟩
  | .jp_C_a16 => ⟨false, 0xDA#8, 3, .keep, .keep, .keep, .keep⟩
  | .call_C_a16 => ⟨false, 0xDC#8, 3, .keep, .keep, .keep, .keep⟩
  | .sbc_A_d8 => ⟨false, 0xDE#8, 2, .computed, .one, .computed, .computed⟩
  | .rst_18 => ⟨false, 0xDF#8, 1, .keep, .keep, .keep, .keep⟩
  | .ldh_atA8_A => ⟨false, 0xE0#8, 2, .keep, .keep, .keep, .keep⟩
  | .pop_HL => ⟨false, 0xE1#8, 1, .keep, .keep, .keep, .keep⟩
  | .ldh_atC_A => ⟨false, 0xE2#8, 1, .keep, .keep, .keep, .keep⟩
  | .push_HL => ⟨false, 0xE5#8, 1, .keep, .keep, .keep, .keep⟩
  | .and_A_d8 => ⟨false, 0xE6#8, 2, .computed, .zero, .one, .zero⟩
  | .rst_20 => ⟨false, 0xE7#8, 1, .keep, .keep, .keep, .keep⟩
  | .add_SP_e8 => ⟨false, 0xE8#8, 2, .zero, .zero, .computed, .computed⟩
  | .jp_HL => ⟨false, 0xE9#8, 1, .keep, .keep, .keep, .keep⟩
  | .ld_atA16_A => ⟨false, 0xEA#8, 3, .keep, .keep, .keep, .keep⟩
  | .xor_A_d8 => ⟨false, 0xEE#8, 2, .computed, .zero, .zero, .zero⟩
  | .rst_28 => ⟨false, 0xEF#8, 1, .keep, .keep, .keep, .keep⟩
  | .ldh_A_atA8 => ⟨false, 0xF0#8, 2, .keep, .keep, .keep, .keep⟩
  | .pop_AF => ⟨false, 0xF1#8, 1, .computed, .computed, .computed, .computed⟩
  | .ldh_A_atC => ⟨false, 0xF2#8, 1, .keep, .keep, .keep, .keep⟩
  | .di => ⟨false, 0xF3#8, 1, .keep, .keep, .keep, .keep⟩
  | .push_AF => ⟨false, 0xF5#8, 1, .keep, .keep, .keep, .keep⟩
  | .or_A_d8 => ⟨false, 0xF6#8, 2, .computed, .zero, .zero, .zero⟩
  | .rst_30 => ⟨false, 0xF7#8, 1, .keep, .keep, .keep, .keep⟩
  | .ld_HL_SPe8 => ⟨false, 0xF8#8, 2, .zero, .zero, .computed, .computed⟩
  | .ld_SP_HL => ⟨false, 0xF9#8, 1, .keep, .keep, .keep, .keep⟩
  | .ld_A_atA16 => ⟨false, 0xFA#8, 3, .keep, .keep, .keep, .keep⟩
  | .ei => ⟨false, 0xFB#8, 1, .keep, .keep, .keep, .keep⟩
  | .cp_A_d8 => ⟨false, 0xFE#8, 2, .computed, .one, .computed, .computed⟩
  | .rst_38 => ⟨false, 0xFF#8, 1, .keep, .keep, .keep, .keep⟩
  | .rlc_B => ⟨true, 0x00#8, 2, .computed, .zero, .zero, .computed⟩
  | .rlc_C => ⟨true, 0x01#8, 2, .computed, .zero, .zero, .computed⟩
  | .rlc_D => ⟨true, 0x02#8, 2, .computed, .zero, .zero, .computed⟩
  | .rlc_E => ⟨true, 0x03#8, 2, .computed, .zero, .zero, .computed⟩
  | .rlc_H => ⟨true, 0x04#8, 2, .computed, .zero, .zero, .computed⟩
  | .rlc_L => ⟨true, 0x05#8, 2, .computed, .zero, .zero, .computed⟩
  | .rlc_atHL => ⟨true, 0x06#8, 2, .computed, .zero, .zero, .computed⟩
  | .rlc_A => ⟨true, 0x07#8, 2, .computed, .zero, .zero, .computed⟩
  | .rrc_B => ⟨true, 0x08#8, 2, .computed, .zero, .zero, .computed⟩
  | .rrc_C => ⟨true, 0x09#8, 2, .computed, .zero, .zero, .computed⟩
  | .rrc_D => ⟨true, 0x0A#8, 2, .computed, .zero, .zero, .computed⟩
  | .rrc_E => ⟨true, 0x0B#8, 2, .computed, .zero, .zero, .computed⟩
  | .rrc_H => ⟨true, 0x0C#8, 2, .computed, .zero, .zero, .computed⟩
  | .rrc_L => ⟨true, 0x0D#8, 2, .computed, .zero, .zero, .computed⟩
  | .rrc_atHL => ⟨true, 0x0E#8, 2, .computed, .zero, .zero, .computed⟩
  | .rrc_A => ⟨true, 0x0F#8, 2, .computed, .zero, .zero, .computed⟩
  | .rl_B => ⟨true, 0x10#8, 2, .computed, .zero, .zero, .computed⟩
  | .rl_C => ⟨true, 0x11#8, 2, .computed, .zero, .zero, .computed⟩
  | .rl_D => ⟨true, 0x12#8, 2, .computed, .zero, .zero, .computed⟩
  | .rl_E => ⟨true, 0x13#8, 2, .computed, .zero, .zero, .computed⟩
  | .rl_H => ⟨true, 0x14#8, 2, .computed, .zero, .zero, .computed⟩
  | .rl_L => ⟨true, 0x15#8, 2, .computed, .zero, .zero, .computed⟩
  | .rl_atHL => ⟨true, 0x16#8, 2, .computed, .zero, .zero, .computed⟩
  | .rl_A => ⟨true, 0x17#8, 2, .computed, .zero, .zero, .computed⟩
  | .rr_B => ⟨true, 0x18#8, 2, .computed, .zero, .zero, .computed⟩
  | .rr_C => ⟨true, 0x19#8, 2, .computed, .zero, .zero, .computed⟩
  | .rr_D => ⟨true, 0x1A#8, 2, .computed, .zero, .zero, .computed⟩
  | .rr_E => ⟨true, 0x1B#8, 2, .computed, .zero, .zero, .computed⟩
  | .rr_H => ⟨true, 0x1C#8, 2, .computed, .zero, .zero, .computed⟩
  | .rr_L => ⟨true, 0x1D#8, 2, .computed, .zero, .zero, .computed⟩
  | .rr_atHL => ⟨true, 0x1E#8, 2, .computed, .zero, .zero, .computed⟩
  | .rr_A => ⟨true, 0x1F#8, 2, .computed, .zero, .zero, .computed⟩
  | .sla_B => ⟨true, 0x20#8, 2, .computed, .zero, .zero, .computed⟩
  | .sla_C => ⟨true, 0x21#8, 2, .computed, .zero, .zero, .computed⟩
  | .sla_D => ⟨true, 0x22#8, 2, .computed, .zero, .zero, .computed⟩
  | .sla_E => ⟨true, 0x23#8, 2, .computed, .zero, .zero, .computed⟩
  | .sla_H => ⟨true, 0x24#8, 2, .computed, .zero, .zero, .computed⟩
  | .sla_L => ⟨true, 0x25#8, 2, .computed, .zero, .zero, .computed⟩
  | .sla_atHL => ⟨true, 0x26#8, 2, .computed, .zero, .zero, .computed⟩
  | .sla_A => ⟨true, 0x27#8, 2, .computed, .zero, .zero, .computed⟩
  | .sra_B => ⟨true, 0x28#8, 2, .computed, .zero, .zero, .computed⟩
  | .sra_C => ⟨true, 0x29#8, 2, .computed, .zero, .zero, .computed⟩
  | .sra_D => ⟨true, 0x2A#8, 2, .computed, .zero, .zero, .computed⟩
  | .sra_E => ⟨true, 0x2B#8, 2, .computed, .zero, .zero, .computed⟩
  | .sra_H => ⟨true, 0x2C#8, 2, .computed, .zero, .zero, .computed⟩
  | .sra_L => ⟨true, 0x2D#8, 2, .computed, .zero, .zero, .computed⟩
  | .sra_atHL => ⟨true, 0x2E#8, 2, .computed, .zero, .zero, .computed⟩
  | .sra_A => ⟨true, 0x2F#8, 2, .computed, .zero, .zero, .computed⟩
  | .swap_B => ⟨true, 0x30#8, 2, .computed, .zero, .zero, .zero⟩
  | .swap_C => ⟨true, 0x31#8, 2, .computed, .zero, .zero, .zero⟩
  | .swap_D => ⟨true, 0x32#8, 2, .computed, .zero, .zero, .zero⟩
  | .swap_E => ⟨true, 0x33#8, 2, .computed, .zero, .zero, .zero⟩
  | .swap_H => ⟨true, 0x34#8, 2, .computed, .zero, .zero, .zero⟩
  | .swap_L => ⟨true, 0x35#8, 2, .computed, .zero, .zero, .zero⟩
  | .swap_atHL => ⟨true, 0x36#8, 2, .computed, .zero, .zero, .zero⟩
  | .swap_A => ⟨true, 0x37#8, 2, .computed, .zero, .zero, .zero⟩
  | .srl_B => ⟨true, 0x38#8, 2, .computed, .zero, .zero, .computed⟩
  | .srl_C => ⟨true, 0x39#8, 2, .computed, .zero, .zero, .computed⟩
  | .srl_D => ⟨true, 0x3A#8, 2, .computed, .zero, .zero, .computed⟩
  | .srl_E => ⟨true, 0x3B#8, 2, .computed, .zero, .zero, .computed⟩
  | .srl_H => ⟨true, 0x3C#8, 2, .computed, .zero, .zero, .computed⟩
  | .srl_L => ⟨true, 0x3D#8, 2, .computed, .zero, .zero, .computed⟩
  | .srl_atHL => ⟨true, 0x3E#8, 2, .computed, .zero, .zero, .computed⟩
  | .srl_A => ⟨true, 0x3F#8, 2, .computed, .zero, .zero, .computed⟩
  | .bit_0_B => ⟨true, 0x40#8, 2, .computed, .zero, .one, .keep⟩
  | .bit_0_C => ⟨true, 0x41#8, 2, .computed, .zero, .one, .keep⟩
  | .bit_0_D => ⟨true, 0x42#8, 2, .computed, .zero, .one, .keep⟩
  | .bit_0_E => ⟨true, 0x43#8, 2, .computed, .zero, .one, .keep⟩
  | .bit_0_H => ⟨true, 0x44#8, 2, .computed, .zero, .one, .keep⟩
  | .bit_0_L => ⟨true, 0x45#8, 2, .computed, .zero, .one, .keep⟩
  | .bit_0_atHL => ⟨true, 0x46#8, 2, .computed, .zero, .one, .keep⟩
  | .bit_0_A => ⟨true, 0x47#8, 2, .computed, .zero, .one, .keep⟩
  | .bit_1_B => ⟨true, 0x48#8, 2, .computed, .zero, .one, .keep⟩
  | .bit_1_C => ⟨true, 0x49#8, 2, .computed, .zero, .one, .keep⟩
  | .bit_1_D => ⟨true, 0x4A#8, 2, .computed, .zero, .one, .keep⟩
  | .bit_1_E => ⟨true, 0x4B#8, 2, .computed, .zero, .one, .keep⟩
  | .bit_1_H => ⟨true, 0x4C#8, 2, .computed, .zero, .one, .keep⟩
  | .bit_1_L => ⟨true, 0x4D#8, 2, .computed, .zero, .one, .keep⟩
  | .bit_1_atHL => ⟨true, 0x4E#8, 2, .computed, .zero, .one, .keep⟩
  | .bit_1_A => ⟨true, 0x4F#8, 2, .computed, .zero, .one, .keep⟩
  | .bit_2_B => ⟨true, 0x50#8, 2, .computed, .zero, .one, .keep⟩
  | .bit_2_C => ⟨true, 0x51#8, 2, .computed, .zero, .one, .keep⟩
  | .bit_2_D => ⟨true, 0x52#8, 2, .computed, .zero, .one, .keep⟩
  | .bit_2_E => ⟨true, 0x53#8, 2, .computed, .zero, .one, .keep⟩
  | .bit_2_H => ⟨true, 0x54#8, 2, .computed, .zero, .one, .keep⟩
  | .bit_2_L => ⟨true, 0x55#8, 2, .computed, .zero, .one, .keep⟩
  | .bit_2_atHL => ⟨true, 0x56#8, 2, .computed, .zero, .one, .keep⟩
  | .bit_2_A => ⟨true, 0x57#8, 2, .computed, .zero, .one, .keep⟩
  | .bit_3_B => ⟨true, 0x58#8, 2, .computed, .zero, .one, .keep⟩
  | .bit_3_C => ⟨true, 0x59#8, 2, .computed, .zero, .one, .keep⟩
  | .bit_3_D => ⟨true, 0x5A#8, 2, .computed, .zero, .one, .keep⟩
  | .bit_3_E => ⟨true, 0x5B#8, 2, .computed, .zero, .one, .keep⟩
  | .bit_3_H => ⟨true, 0x5C#8, 2, .computed, .zero, .one, .keep⟩
  | .bit_3_L => ⟨true, 0x5D#8, 2, .computed, .zero, .one, .keep⟩
  | .bit_3_atHL => ⟨true, 0x5E#8, 2, .computed, .zero, .one, .keep⟩
  | .bit_3_A => ⟨true, 0x5F#8, 2, .computed, .zero, .one, .keep⟩
  | .bit_4_B => ⟨true, 0x60#8, 2, .computed, .zero, .one, .keep⟩
  | .bit_4_C => ⟨true, 0x61#8, 2, .computed, .zero, .one, .keep⟩
  | .bit_4_D => ⟨true, 0x62#8, 2, .computed, .zero, .one, .keep⟩
  | .bit_4_E => ⟨true, 0x63#8, 2, .computed, .zero, .one, .keep⟩
  | .bit_4_H => ⟨true, 0x64#8, 2, .computed, .zero, .one, .keep⟩
  | .bit_4_L => ⟨true, 0x65#8, 2, .computed, .zero, .one, .keep⟩
  | .bit_4_atHL => ⟨true, 0x66#8, 2, .computed, .zero, .one, .keep⟩
  | .bit_4_A => ⟨true, 0x67#8, 2, .computed, .zero, .one, .keep⟩
  | .bit_5_B => ⟨true, 0x68#8, 2, .computed, .zero, .one, .keep⟩
  | .bit_5_C => ⟨true, 0x69#8, 2, .computed, .zero, .one, .keep⟩
  | .bit_5_D => ⟨true, 0x6A#8, 2, .computed, .zero, .one, .keep⟩
  | .bit_5_E => ⟨true, 0x6B#8, 2, .computed, .zero, .one, .keep⟩
  | .bit_5_H => ⟨true, 0x6C#8, 2, .computed, .zero, .one, .keep⟩
  | .bit_5_L => ⟨true, 0x6D#8, 2, .computed, .zero, .one, .keep⟩
  | .bit_5_atHL => ⟨true, 0x6E#8, 2, .computed, .zero, .one, .keep⟩
  | .bit_5_A => ⟨true, 0x6F#8, 2, .computed, .zero, .one, .keep⟩
  | .bit_6_B => ⟨true, 0x70#8, 2, .computed, .zero, .one, .keep⟩
  | .bit_6_C => ⟨true, 0x71#8, 2, .computed, .zero, .one, .keep⟩
  | .bit_6_D => ⟨true, 0x72#8, 2, .computed, .zero, .one, .keep⟩
  | .bit_6_E => ⟨true, 0x73#8, 2, .computed, .zero, .one, .keep⟩
  | .bit_6_H => ⟨true, 0x74#8, 2, .computed, .zero, .one, .keep⟩
  | .bit_6_L => ⟨true, 0x75#8, 2, .computed, .zero, .one, .keep⟩
  | .bit_6_atHL => ⟨true, 0x76#8, 2, .computed, .zero, .one, .keep⟩
  | .bit_6_A => ⟨true, 0x77#8, 2, .computed, .zero, .one, .keep⟩
  | .bit_7_B => ⟨true, 0x78#8, 2, .computed, .zero, .one, .keep⟩
  | .bit_7_C => ⟨true, 0x79#8, 2, .computed, .zero, .one, .keep⟩
  | .bit_7_D => ⟨true, 0x7A#8, 2, .computed, .zero, .one, .keep⟩
  | .bit_7_E => ⟨true, 0x7B#8, 2, .computed, .zero, .one, .keep⟩
  | .bit_7_H => ⟨true, 0x7C#8, 2, .computed, .zero, .one, .keep⟩
  | .bit_7_L => ⟨true, 0x7D#8, 2, .computed, .zero, .one, .keep⟩
  | .bit_7_atHL => ⟨true, 0x7E#8, 2, .computed, .zero, .one, .keep⟩
  | .bit_7_A => ⟨true, 0x7F#8, 2, .computed, .zero, .one, .keep⟩
  | .res_0_B => ⟨true, 0x80#8, 2, .keep, .keep, .keep, .keep⟩
  | .res_0_C => ⟨true, 0x81#8, 2, .keep, .keep, .keep, .keep⟩
  | .res_0_D => ⟨true, 0x82#8, 2, .keep, .keep, .keep, .keep⟩
  | .res_0_E => ⟨true, 0x83#8, 2, .keep, .keep, .keep, .keep⟩
  | .res_0_H => ⟨true, 0x84#8, 2, .keep, .keep, .keep, .keep⟩
  | .res_0_L => ⟨true, 0x85#8, 2, .keep, .keep, .keep, .keep⟩
  | .res_0_atHL => ⟨true, 0x86#8, 2, .keep, .keep, .keep, .keep⟩
  | .res_0_A => ⟨true, 0x87#8, 2, .keep, .keep, .keep, .keep⟩
  | .res_1_B => ⟨true, 0x88#8, 2, .keep, .keep, .keep, .keep⟩
  | .res_1_C => ⟨true, 0x89#8, 2, .keep, .keep, .keep, .keep⟩
  | .res_1_D => ⟨true, 0x8A#8, 2, .keep, .keep, .keep, .keep⟩
  | .res_1_E => ⟨true, 0x8B#8, 2, .keep, .keep, .keep, .keep⟩
  | .res_1_H => ⟨true, 0x8C#8, 2, .keep, .keep, .keep, .keep⟩
  | .res_1_L => ⟨true, 0x8D#8, 2, .keep, .keep, .keep, .keep⟩
  | .res_1_atHL => ⟨true, 0x8E#8, 2, .keep, .keep, .keep, .keep⟩
  | .res_1_A => ⟨true, 0x8F#8, 2, .keep, .keep, .keep, .keep⟩
  | .res_2_B => ⟨true, 0x90#8, 2, .keep, .keep, .keep, .keep⟩
  | .res_2_C => ⟨true, 0x91#8, 2, .keep, .keep, .keep, .keep⟩
  | .res_2_D => ⟨true, 0x92#8, 2, .keep, .keep, .keep, .keep⟩
  | .res_2_E => ⟨true, 0x93#8, 2, .keep, .keep, .keep, .keep⟩
  | .res_2_H => ⟨true, 0x94#8, 2, .keep, .keep, .keep, .keep⟩
  | .res_2_L => ⟨true, 0x95#8, 2, .keep, .keep, .keep, .keep⟩
  | .res_2_atHL => ⟨true, 0x96#8, 2, .keep, .keep, .keep, .keep⟩
  | .res_2_A => ⟨true, 0x97#8, 2, .keep, .keep, .keep, .keep⟩
  | .res_3_B => ⟨true, 0x98#8, 2, .keep, .keep, .keep, .keep⟩
  | .res_3_C => ⟨true, 0x99#8, 2, .keep, .keep, .keep, .keep⟩
  | .res_3_D => ⟨true, 0x9A#8, 2, .keep, .keep, .keep, .keep⟩
  | .res_3_E => ⟨true, 0x9B#8, 2, .keep, .keep, .keep, .keep⟩
  | .res_3_H => ⟨true, 0x9C#8, 2, .keep, .keep, .keep, .keep⟩
  | .res_3_L => ⟨true, 0x9D#8, 2, .keep, .keep, .keep, .keep⟩
  | .res_3_atHL => ⟨true, 0x9E#8, 2, .keep, .keep, .keep, .keep⟩
  | .res_3_A => ⟨true, 0x9F#8, 2, .keep, .keep, .keep, .keep⟩
  | .res_4_B => ⟨true, 0xA0#8, 2, .keep, .keep, .keep, .keep⟩
  | .res_4_C => ⟨true, 0xA1#8, 2, .keep, .keep, .keep, .keep⟩
  | .res_4_D => ⟨true, 0xA2#8, 2, .keep, .keep, .keep, .keep⟩
  | .res_4_E => ⟨true, 0xA3#8, 2, .keep, .keep, .keep, .keep⟩
  | .res_4_H => ⟨true, 0xA4#8, 2, .keep, .keep, .keep, .keep⟩
  | .res_4_L => ⟨true, 0xA5#8, 2, .keep, .keep, .keep, .keep⟩
  | .res_4_atHL => ⟨true, 0xA6#8, 2, .keep, .keep, .keep, .keep⟩
  | .res_4_A => ⟨true, 0xA7#8, 2, .keep, .keep, .keep, .keep⟩
  | .res_5_B => ⟨true, 0xA8#8, 2, .keep, .keep, .keep, .keep⟩
  | .res_5_C => ⟨true, 0xA9#8, 2, .keep, .keep, .keep, .keep⟩
  | .res_5_D => ⟨true, 0xAA#8, 2, .keep, .keep, .keep, .keep⟩
  | .res_5_E => ⟨true, 0xAB#8, 2, .keep, .keep, .keep, .keep⟩
  | .res_5_H => ⟨true, 0xAC#8, 2, .keep, .keep, .keep, .keep⟩
  | .res_5_L => ⟨true, 0xAD#8, 2, .keep, .keep, .keep, .keep⟩
  | .res_5_atHL => ⟨true, 0xAE#8, 2, .keep, .keep, .keep, .keep⟩
  | .res_5_A => ⟨true, 0xAF#8, 2, .keep, .keep, .keep, .keep⟩
  | .res_6_B => ⟨true, 0xB0#8, 2, .keep, .keep, .keep, .keep⟩
  | .res_6_C => ⟨true, 0xB1#8, 2, .keep, .keep, .keep, .keep⟩
  | .res_6_D => ⟨true, 0xB2#8, 2, .keep, .keep, .keep, .keep⟩
  | .res_6_E => ⟨true, 0xB3#8, 2, .keep, .keep, .keep, .keep⟩
  | .res_6_H => ⟨true, 0xB4#8, 2, .keep, .keep, .keep, .keep⟩
  | .res_6_L => ⟨true, 0xB5#8, 2, .keep, .keep, .keep, .keep⟩
  | .res_6_atHL => ⟨true, 0xB6#8, 2, .keep, .keep, .keep, .keep⟩
  | .res_6_A => ⟨true, 0xB7#8, 2, .keep, .keep, .keep, .keep⟩
  | .res_7_B => ⟨true, 0xB8#8, 2, .keep, .keep, .keep, .keep⟩
  | .res_7_C => ⟨true, 0xB9#8, 2, .keep, .keep, .keep, .keep⟩
  | .res_7_D => ⟨true, 0xBA#8, 2, .keep, .keep, .keep, .keep⟩
  | .res_7_E => ⟨true, 0xBB#8, 2, .keep, .keep, .keep, .keep⟩
  | .res_7_H => ⟨true, 0xBC#8, 2, .keep, .keep, .keep, .keep⟩
  | .res_7_L => ⟨true, 0xBD#8, 2, .keep, .keep, .keep, .keep⟩
  | .res_7_atHL => ⟨true, 0xBE#8, 2, .keep, .keep, .keep, .keep⟩
  | .res_7_A => ⟨true, 0xBF#8, 2, .keep, .keep, .keep, .keep⟩
  | .set_0_B => ⟨true, 0xC0#8, 2, .keep, .keep, .keep, .keep⟩
  | .set_0_C => ⟨true, 0xC1#8, 2, .keep, .keep, .keep, .keep⟩
  | .set_0_D => ⟨true, 0xC2#8, 2, .keep, .keep, .keep, .keep⟩
  | .set_0_E => ⟨true, 0xC3#8, 2, .keep, .keep, .keep, .keep⟩
  | .set_0_H => ⟨true, 0xC4#8, 2, .keep, .keep, .keep, .keep⟩
  | .set_0_L => ⟨true, 0xC5#8, 2, .keep, .keep, .keep, .keep⟩
  | .set_0_atHL => ⟨true, 0xC6#8, 2, .keep, .keep, .keep, .keep⟩
  | .set_0_A => ⟨true, 0xC7#8, 2, .keep, .keep, .keep, .keep⟩
  | .set_1_B => ⟨true, 0xC8#8, 2, .keep, .keep, .keep, .keep⟩
  | .set_1_C => ⟨true, 0xC9#8, 2, .keep, .keep, .keep, .keep⟩
  | .set_1_D => ⟨true, 0xCA#8, 2, .keep, .keep, .keep, .keep⟩
  | .set_1_E => ⟨true, 0xCB#8, 2, .keep, .keep, .keep, .keep⟩
  | .set_1_H => ⟨true, 0xCC#8, 2, .keep, .keep, .keep, .keep⟩
  | .set_1_L => ⟨true, 0xCD#8, 2, .keep, .keep, .keep, .keep⟩
  | .set_1_atHL => ⟨true, 0xCE#8, 2, .keep, .keep, .keep, .keep⟩
  | .set_1_A => ⟨true, 0xCF#8, 2, .keep, .keep, .keep, .keep⟩
  | .set_2_B => ⟨true, 0xD0#8, 2, .keep, .keep, .keep, .keep⟩
  | .set_2_C => ⟨true, 0xD1#8, 2, .keep, .keep, .keep, .keep⟩
  | .set_2_D => ⟨true, 0xD2#8, 2, .keep, .keep, .keep, .keep⟩
  | .set_2_E => ⟨true, 0xD3#8, 2, .keep, .keep, .keep, .keep⟩
  | .set_2_H => ⟨true, 0xD4#8, 2, .keep, .keep, .keep, .keep⟩
  | .set_2_L => ⟨true, 0xD5#8, 2, .keep, .keep, .keep, .keep⟩
  | .set_2_atHL => ⟨true, 0xD6#8, 2, .keep, .keep, .keep, .keep⟩
  | .set_2_A => ⟨true, 0xD7#8, 2, .keep, .keep, .keep, .keep⟩
  | .set_3_B => ⟨true, 0xD8#8, 2, .keep, .keep, .keep, .keep⟩
  | .set_3_C => ⟨true, 0xD9#8, 2, .keep, .keep, .keep, .keep⟩
  | .set_3_D => ⟨true, 0xDA#8, 2, .keep, .keep, .keep, .keep⟩
  | .set_3_E => ⟨true, 0xDB#8, 2, .keep, .keep, .keep, .keep⟩
  | .set_3_H => ⟨true, 0xDC#8, 2, .keep, .keep, .keep, .keep⟩
  | .set_3_L => ⟨true, 0xDD#8, 2, .keep, .keep, .keep, .keep⟩
  | .set_3_atHL => ⟨true, 0xDE#8, 2, .keep, .keep, .keep, .keep⟩
  | .set_3_A => ⟨true, 0xDF#8, 2, .keep, .keep, .keep, .keep⟩
  | .set_4_B => ⟨true, 0xE0#8, 2, .keep, .keep, .keep, .keep⟩
  | .set_4_C => ⟨true, 0xE1#8, 2, .keep, .keep, .keep, .keep⟩
  | .set_4_D => ⟨true, 0xE2#8, 2, .keep, .keep, .keep, .keep⟩
  | .set_4_E => ⟨true, 0xE3#8, 2, .keep, .keep, .keep, .keep⟩
  | .set_4_H => ⟨true, 0xE4#8, 2, .keep, .keep, .keep, .keep⟩
  | .set_4_L => ⟨true, 0xE5#8, 2, .keep, .keep, .keep, .keep⟩
  | .set_4_atHL => ⟨true, 0xE6#8, 2, .keep, .keep, .keep, .keep⟩
  | .set_4_A => ⟨true, 0xE7#8, 2, .keep, .keep, .keep, .keep⟩
  | .set_5_B => ⟨true, 0xE8#8, 2, .keep, .keep, .keep, .keep⟩
  | .set_5_C => ⟨true, 0xE9#8, 2, .keep, .keep, .keep, .keep⟩
  | .set_5_D => ⟨true, 0xEA#8, 2, .keep, .keep, .keep, .keep⟩
  | .set_5_E => ⟨true, 0xEB#8, 2, .keep, .keep, .keep, .keep⟩
  | .set_5_H => ⟨true, 0xEC#8, 2, .keep, .keep, .keep, .keep⟩
  | .set_5_L => ⟨true, 0xED#8, 2, .keep, .keep, .keep, .keep⟩
  | .set_5_atHL => ⟨true, 0xEE#8, 2, .keep, .keep, .keep, .keep⟩
  | .set_5_A => ⟨true, 0xEF#8, 2, .keep, .keep, .keep, .keep⟩
  | .set_6_B => ⟨true, 0xF0#8, 2, .keep, .keep, .keep, .keep⟩
  | .set_6_C => ⟨true, 0xF1#8, 2, .keep, .keep, .keep, .keep⟩
  | .set_6_D => ⟨true, 0xF2#8, 2, .keep, .keep, .keep, .keep⟩
  | .set_6_E => ⟨true, 0xF3#8, 2, .keep, .keep, .keep, .keep⟩
  | .set_6_H => ⟨true, 0xF4#8, 2, .keep, .keep, .keep, .keep⟩
  | .set_6_L => ⟨true, 0xF5#8, 2, .keep, .keep, .keep, .keep⟩
  | .set_6_atHL => ⟨true, 0xF6#8, 2, .keep, .keep, .keep, .keep⟩
  | .set_6_A => ⟨true, 0xF7#8, 2, .keep, .keep, .keep, .keep⟩
  | .set_7_B => ⟨true, 0xF8#8, 2, .keep, .keep, .keep, .keep⟩
  | .set_7_C => ⟨true, 0xF9#8, 2, .keep, .keep, .keep, .keep⟩
  | .set_7_D => ⟨true, 0xFA#8, 2, .keep, .keep, .keep, .keep⟩
  | .set_7_E => ⟨true, 0xFB#8, 2, .keep, .keep, .keep, .keep⟩
  | .set_7_H => ⟨true, 0xFC#8, 2, .keep, .keep, .keep, .keep⟩
  | .set_7_L => ⟨true, 0xFD#8, 2, .keep, .keep, .keep, .keep⟩
  | .set_7_atHL => ⟨true, 0xFE#8, 2, .keep, .keep, .keep, .keep⟩
  | .set_7_A => ⟨true, 0xFF#8, 2, .keep, .keep, .keep, .keep⟩

/-- The length in bytes, prefix and operands included (R300). -/
def Instr.length (i : Instr) : Nat := i.row.length

/-- How many bytes the opcode takes: 2 with the CB prefix, else 1 (R302). -/
def Instr.opcodeLength (i : Instr) : Nat := if i.row.prefixed then 2 else 1

/-- How many operand bytes follow the opcode: format P1 and CB none, P2 one, P3 two (R302). -/
def Instr.operandLength (i : Instr) : Nat := i.length - i.opcodeLength

/-- The operand bytes of a decoded instruction, from the bytes after its opcode (R301). -/
def takeOperands (i : Instr) (rest : List Byte) : Except DecodeError (Assembled × List Byte) :=
  if rest.length < i.operandLength then .error .truncated
  else .ok (⟨i, rest.take i.operandLength⟩, rest.drop i.operandLength)

/-- An instruction from its opcode byte and the bytes after it. -/
def decodeAfterOpcode (op : Byte) (isPrefixed : Bool) (rest : List Byte) :
    Except DecodeError (Assembled × List Byte) :=
  match decode op isPrefixed with
  | some i => takeOperands i rest
  | none => .error (.unimplemented op isPrefixed)

/-- The first instruction of a string of bytes and the bytes after it. A first byte 0xCB selects the CB table for the
byte that follows (R7, R301, R411). -/
def decodeBytes : List Byte → Except DecodeError (Assembled × List Byte)
  | [] => .error .truncated
  | b0 :: rest =>
    if b0 = 0xCB#8 then
      match rest with
      | [] => .error .truncated
      | op :: rest' => decodeAfterOpcode op true rest'
    else decodeAfterOpcode b0 false rest

/-! ### The encoder -/

/-- The opcode bytes of an instruction: its row's opcode, after 0xCB for a CB row (R302). -/
def Instr.opcodeBytes (i : Instr) : List Byte :=
  if i.row.prefixed then [0xCB#8, i.row.opcode] else [i.row.opcode]

/-- The bytes of an instruction: its opcode bytes, then its operand bytes (R302). -/
def encode (a : Assembled) : List Byte := a.instr.opcodeBytes ++ a.operands

/-! ### Words numbered as opcode_table.json numbers them -/

/-- The three bytes, first byte first, of an instruction given as a number of `nbits` bits.
Bit 0 is the least significant bit of the first byte and the later bytes count on from it, except that
opcode_table.json numbers a CB row's two bytes with the first byte most significant (R334), so a 16-bit number whose
bits 15 to 8 are 0xCB is that prefix byte followed by bits 7 to 0 (notes/assumptions/8.md). -/
def tableBytes (nbits w : Nat) : List Byte :=
  let first := BitVec.ofNat 8 w
  let second := BitVec.ofNat 8 (w / 256)
  let third := BitVec.ofNat 8 (w / 65536)
  if nbits = 16 ∧ second = 0xCB#8 then [0xCB#8, first, 0x00#8] else [first, second, third]

/-- The instruction the decoder reads from a word numbered as the table numbers it. -/
def decodeTableWord (nbits w : Nat) : Option Instr :=
  match decodeBytes (tableBytes nbits w) with
  | .ok (a, _) => some a.instr
  | .error _ => none

end Sys2Proof
end

