-- ==== Sys2Proof/Machine/State.lean ====
section
/-! DEFINITION. The machine's state as plain data: every item of R100, the bus state (R202, R203), and the two inputs the
embedder gives the core (R6, R1270). -/

namespace Sys2Proof.Machine

/-- F: four independent booleans (R103, R120). Its byte view is `Flags.toByte` (Machine/Flags.lean). -/
structure Flags where
  z : Bool
  n : Bool
  h : Bool
  c : Bool
deriving DecidableEq, Repr

/-- The report of a decode failure (R152, R1201): the byte that failed to decode, the address it was read from, and
whether it was CB-prefixed. -/
structure Report where
  byte       : Byte
  address    : Word
  isPrefixed : Bool
deriving DecidableEq, Repr

/-- The run mode (R150). Mode Failed carries the report of its decode failure, which is meaningful in that mode alone
(R100, R152), so a state cannot have the one without the other. -/
inductive Mode where
  | running | halted | stopped
  | failed (report : Report)
deriving DecidableEq, Repr

/-- `RESET_REGS` (R6, R170): the register values a reset is given. -/
structure ResetRegs where
  a  : Byte
  f  : Flags
  b  : Byte
  c  : Byte
  d  : Byte
  e  : Byte
  h  : Byte
  l  : Byte
  sp : Word
deriving DecidableEq, Repr

/-- An item of R100 that the embedder may write between two steps, with the value it writes (R102): every item except
mode and report. -/
inductive ItemWrite where
  | a (v : Byte) | f (v : Flags) | b (v : Byte) | c (v : Byte) | d (v : Byte) | e (v : Byte) | h (v : Byte) | l (v : Byte)
  | sp (v : Word) | pc (v : Word) | ime (v : Bool) | imePending (v : Bool) | haltBug (v : Bool)
deriving DecidableEq, Repr

/-- The bus state (R202): the bytes of plain RAM (R203), and whatever else lives behind the bus (ROM banks, video memory,
I/O registers), written as numbers in a code of the bus's own (notes/assumptions/5.md). -/
structure BusState where
  mem    : List Host.Cell
  device : List Nat
deriving DecidableEq, Repr

/-- The operations by which the embedder acts on the core (R1270). Reading an accessor changes nothing and is reading a
field of State. -/
inductive HostCall where
  /-- `step(irq_pending)` (R410). -/
  | step (irqPending : Bool)
  /-- `execute(instruction)` (R402). -/
  | execute (i : Instr)
  /-- `interrupt(k)` (R1210). -/
  | interrupt (k : Fin 5)
  /-- `wake()` (R1212). -/
  | wake
  /-- An accessor write (R102). -/
  | write (w : ItemWrite)
  /-- A bus change by another agent: one write through the bus (R245). -/
  | busWrite (address : Word) (value : Byte)
  /-- A bus change by another agent: any (R245). -/
  | busChange (b : BusState)
  /-- Reset with its `RESET_PC` and `RESET_REGS` (R1300). -/
  | reset (pc : Word) (regs : ResetRegs)
deriving DecidableEq, Repr

/-- What an operation of R1270 returns. The first four are `StepResult` (R410). -/
inductive Reply where
  | ok | halted | stopped | decodeFailure (r : Report)
  | nextPc (pc : Word)
  | taken | notTaken
  | woken | notWoken
  | done
deriving DecidableEq, Repr

/-- The state: the core's items (R100) and the bus state (R202), then the model's own two input fields. -/
structure State where
  a  : Byte
  f  : Flags
  b  : Byte
  c  : Byte
  d  : Byte
  e  : Byte
  h  : Byte
  l  : Byte
  sp : Word
  pc : Word
  /-- Interrupt master enable (R140). -/
  ime        : Bool
  /-- EI's delay: IME is to be set at the end of the next step that executes an instruction (R141). -/
  imePending : Bool
  /-- The run mode, and in mode Failed the report (R150, R152). -/
  mode       : Mode
  /-- The next step counts its first byte twice (R151). -/
  haltBug    : Bool
  /-- The bytes of RAM by address, in the canonical form `Memory.wf` (Machine/Ops.lean; R203). -/
  mem        : List Host.Cell
  /-- The rest of the bus state (R202). Plain RAM neither reads nor writes it. -/
  device     : List Nat
  /-- The level of the controller's `irq_pending` line (R6), the model's own field (notes/assumptions/1.md). -/
  irqPending : Bool
  /-- The embedder's calls still to come, the next one first, the model's own field (notes/assumptions/2.md).
  With none, each step is the embedder calling `step` with the line as it stands. -/
  calls      : List HostCall
deriving DecidableEq, Repr

/-- Why the machine stops. -/
inductive Fault where
  /-- A step in mode Running fetched a byte that is the unimplemented marker, or a step was made in mode Failed (R1200,
  R1203): raised by `step` alone. R1203 and R1271 call this result a fault. Safe: the model stops where the chip locks
  up (R1204). The state the failing step leaves (mode Failed and the report) is `stepCall`'s (Machine/Engine.lean). -/
  | decodeFailure (r : Report)
deriving DecidableEq, Repr

/-- Why the model gives no meaning. -/
inductive Refusal where
  /-- The instruction has no meaning yet: raised by `exec`'s refused arms alone, of which there are none. Safe. -/
  | notModelled (mnemonic : String)
deriving DecidableEq, Repr

/-- What an instruction's meaning answers. -/
abbrev Result := Host.Outcome State Fault Refusal

/-- The register values of this machine's reset.
DESIGN CHOICE (unsafe, notes/assumptions/3.md): the spec leaves `RESET_REGS` unspecified (R170, R1311). -/
def ResetRegs.zero : ResetRegs :=
  ⟨0x00#8, ⟨false, false, false, false⟩, 0x00#8, 0x00#8, 0x00#8, 0x00#8, 0x00#8, 0x00#8, 0x0000#16⟩

/-- What the boot ROM leaves in the registers, for an embedder that starts a cartridge without it at PC 0x0100 (R171,
R1301; informative, no rule of the model). -/
def ResetRegs.afterBootRom : ResetRegs :=
  ⟨0x01#8, ⟨true, false, true, true⟩, 0x00#8, 0x13#8, 0x00#8, 0xD8#8, 0x01#8, 0x4D#8, 0xFFFE#16⟩

/-- Reset (R170, R1300): every core item at its reset value; the bus and the embedder's inputs are not the core's and are
not touched. -/
def State.resetCore (pc : Word) (r : ResetRegs) (s : State) : State :=
  { s with
    a := r.a, f := r.f, b := r.b, c := r.c, d := r.d, e := r.e, h := r.h, l := r.l, sp := r.sp, pc := pc
    ime := false, imePending := false, mode := .running, haltBug := false }

/-- The machine right after power-on with the given `RESET_PC` and `RESET_REGS`, memory with nothing listed, nothing else
behind the bus, the line low (R6) and no call waiting. -/
def State.powerOn (pc : Word) (r : ResetRegs) : State :=
  { a := r.a, f := r.f, b := r.b, c := r.c, d := r.d, e := r.e, h := r.h, l := r.l, sp := r.sp, pc := pc
    ime := false, imePending := false, mode := .running, haltBug := false
    mem := [], device := [], irqPending := false, calls := [] }

/-- The machine right after reset: `RESET_PC` at its default (R170), the registers at the named values. -/
def State.reset : State := State.powerOn Config.resetPc ResetRegs.zero

/-- The item `report` of R100: the decode failure of mode Failed, none in the other modes (R152). -/
def State.report (s : State) : Option Report :=
  match s.mode with
  | .failed r => some r
  | _ => none

end Sys2Proof.Machine
end

