-- ==== Sys2Proof/Machine/Ops.lean ====
section
/-! DEFINITION. The named operations over memory and registers: memory in its canonical form, the bus and its accesses, the
register pairs, the stack, and interrupt entry, return and wake. -/

namespace Sys2Proof.Machine

/-! ### Words and bytes (R11) -/

/-- `concat16(hi, lo)`. -/
def concat16 (hi lo : Byte) : Word := hi ++ lo

/-- v[15:8]. -/
def hiByte (v : Word) : Byte := v.extractLsb' 8 8

/-- v[7:0]. -/
def loByte (v : Word) : Byte := v.extractLsb' 0 8

/-- `sext_16(b)`: the byte as a signed value, in 16 bits (R11, R319). -/
def sext16 (v : Byte) : Word := v.signExtend 16

/-! ### Memory -/

/-- The byte at an address: the listed one, or what an unlisted address reads as. -/
def Memory.read : List Host.Cell → Nat → Byte
  | [], _ => Config.unlistedByte
  | (k, v) :: m, n => if k = n then v else Memory.read m n

/-- Lists a byte at an address that the list does not hold, before the first higher address. -/
def Memory.insert : List Host.Cell → Nat → Byte → List Host.Cell
  | [], n, v => [(n, v)]
  | (k, w) :: m, n, v => if n < k then (n, v) :: (k, w) :: m else (k, w) :: Memory.insert m n v

/-- Replaces the byte at an address and changes nothing else (R203), keeping the canonical form: a byte equal to what
an unlisted address reads as is not listed. -/
def Memory.write (m : List Host.Cell) (n : Nat) (v : Byte) : List Host.Cell :=
  let rest := m.filter fun cell => cell.1 != n
  if v = Config.unlistedByte then rest else Memory.insert rest n v

/-- The canonical form: addresses of the 64 KiB space (R5), strictly rising, none listed with the byte an unlisted
address reads as. -/
abbrev Memory.wf (m : List Host.Cell) : Prop :=
  m.Pairwise (fun x y => x.1 < y.1) ∧ ∀ cell ∈ m, cell.1 < 65536 ∧ cell.2 ≠ Config.unlistedByte

/-! ### The bus (R200 to R204) -/

/-- `BUS` (R6, R202): what a read returns and does to the bus state, and what a write does to it. -/
structure Bus where
  read  : BusState → Word → Byte × BusState
  write : BusState → Word → Byte → BusState

/-- The parameters a core is built over (R6): the bus, and the entries of the plain (`false`) and the CB table (`true`) that
its decoder admits (R331). -/
structure Params where
  bus      : Bus
  admitted : Bool → Byte → Bool

/-- Plain RAM (R203): a read returns the byte at the address and changes nothing; a write replaces that byte and changes
nothing else. -/
def plainRam : Bus :=
  { read  := fun b addr => (Memory.read b.mem addr.toNat, b)
    write := fun b addr v => { b with mem := Memory.write b.mem addr.toNat v } }

/-- The parameters at their defaults (R6): the machine that `step` and `exec` are. -/
def Params.default : Params := { bus := plainRam, admitted := Config.admitted }

/-- The bus state a state holds. -/
def State.busState (s : State) : BusState := ⟨s.mem, s.device⟩

/-- The state with another bus state. -/
def State.setBus (b : BusState) (s : State) : State := { s with mem := b.mem, device := b.device }

/-- `MemRead(a, 1)` (R13, R200): one bus read, the byte and the state after it. -/
def State.memRead (addr : Word) (s : State) (P : Params := Params.default) : Byte × State :=
  let x := P.bus.read s.busState addr
  (x.1, s.setBus x.2)

/-- `MemWrite(a, 1, v)` (R13, R200): one bus write. -/
def State.writeByte (addr : Word) (v : Byte) (s : State) (P : Params := Params.default) : State :=
  s.setBus (P.bus.write s.busState addr v)

/-- `MemRead(a, 2)` (R13, R210): two reads, low address first, little-endian; the address wraps (R216). -/
def State.memRead2 (addr : Word) (s : State) (P : Params := Params.default) : Word × State :=
  let lo := s.memRead addr P
  let hi := lo.2.memRead (addr + 1) P
  (concat16 hi.1 lo.1, hi.2)

/-- `MemWrite(a, 2, v)` (R13, R211): two writes, low address first; the address wraps (R216). -/
def State.writeWord (addr : Word) (v : Word) (s : State) (P : Params := Params.default) : State :=
  (s.writeByte addr (loByte v) P).writeByte (addr + 1) (hiByte v) P

/-- The byte a read of plain RAM gives. -/
def State.readByte (s : State) (addr : Word) : Byte := (s.memRead addr).1

/-- The word a 16-bit read of plain RAM gives. -/
def State.readWord (s : State) (addr : Word) : Word := (s.memRead2 addr).1

/-! ### Single registers -/

/-- `pc <- t` (R14). -/
def State.jumpTo (t : Word) (s : State) : State := { s with pc := t }

/-- `pc <- pc + len` (R131); PC wraps (R132). -/
def State.advance (len : Nat) (s : State) : State := s.jumpTo (s.pc + BitVec.ofNat 16 len)

/-- Writes A. -/
def State.setA (v : Byte) (s : State) : State := { s with a := v }

/-- Writes the four flags. -/
def State.setF (v : Flags) (s : State) : State := { s with f := v }

/-- Writes SP. -/
def State.setSp (v : Word) (s : State) : State := { s with sp := v }

/-- Writes the run mode. -/
def State.setMode (v : Mode) (s : State) : State := { s with mode := v }

/-- Writes IME. -/
def State.setIme (v : Bool) (s : State) : State := { s with ime := v }

/-- Writes ime_pending. -/
def State.setImePending (v : Bool) (s : State) : State := { s with imePending := v }

/-- Writes halt_bug. -/
def State.setHaltBug (v : Bool) (s : State) : State := { s with haltBug := v }

/-! ### Register pairs (R110 to R114) -/

/-- `get_BC()`. -/
def State.bc (s : State) : Word := concat16 s.b s.c

/-- `get_DE()`. -/
def State.de (s : State) : Word := concat16 s.d s.e

/-- `get_HL()`. -/
def State.hl (s : State) : Word := concat16 s.h s.l

/-- `set_BC(v)`: both halves together. -/
def State.setBC (v : Word) (s : State) : State := { s with b := hiByte v, c := loByte v }

/-- `set_DE(v)`. -/
def State.setDE (v : Word) (s : State) : State := { s with d := hiByte v, e := loByte v }

/-- `set_HL(v)`. -/
def State.setHL (v : Word) (s : State) : State := { s with h := hiByte v, l := loByte v }

/-! ### The stack -/

/-- `push16(v)` (R430): the high byte first, at the higher address; SP wraps. -/
def State.push16 (v : Word) (s : State) (P : Params := Params.default) : State :=
  let s1 := s.setSp (s.sp - 1)
  let s2 := s1.writeByte s1.sp (hiByte v) P
  let s3 := s2.setSp (s2.sp - 1)
  s3.writeByte s3.sp (loByte v) P

/-- `pop16()` (R431): the value and the state after it. -/
def State.pop16 (s : State) (P : Params := Params.default) : Word × State :=
  let lo := s.memRead s.sp P
  let s1 := lo.2.setSp (lo.2.sp + 1)
  let hi := s1.memRead s1.sp P
  (concat16 hi.1 lo.1, hi.2.setSp (hi.2.sp + 1))

/-! ### Exceptions and interrupts -/

/-- What a decode failure leaves (R418, R1203): mode Failed and the report, nothing else changed. -/
def State.failDecode (r : Report) (s : State) : State := { s with mode := .failed r }

/-- The vector of interrupt source k (R1211). -/
def interruptVector (k : Fin 5) : Word := 0x0040#16 + 8#16 * BitVec.ofNat 16 k.val

/-- Whether `interrupt(k)` is taken (R1210). -/
def State.takesInterrupt (s : State) : Bool := s.ime && (s.mode == .running || s.mode == .halted)

/-- Interrupt entry (R1210): `interrupt(k)` saves PC on the stack, clears IME, ime_pending and halt_bug, makes the mode
Running and goes to the vector; or nothing changes. -/
def State.interrupt (k : Fin 5) (s : State) (P : Params := Params.default) : State × Reply :=
  if s.takesInterrupt then
    ({ s.push16 s.pc P with
        pc := interruptVector k, ime := false, imePending := false, haltBug := false, mode := .running }, .taken)
  else (s, .notTaken)

/-- Return from an interrupt (R750, R1216): PC from the stack, IME at once. Nothing else is restored. -/
def State.returnFromInterrupt (s : State) (P : Params := Params.default) : State :=
  let x := s.pop16 P
  (x.2.jumpTo x.1).setIme true

/-- `wake()` (R1212): leaves Halted or Stopped without entering a handler. -/
def State.wake (s : State) : State × Reply :=
  if s.mode == .halted || s.mode == .stopped then (s.setMode .running, .woken) else (s, .notWoken)

/-- An accessor write (R102). -/
def State.writeItem (w : ItemWrite) (s : State) : State :=
  match w with
  | .a v => { s with a := v }
  | .f v => { s with f := v }
  | .b v => { s with b := v }
  | .c v => { s with c := v }
  | .d v => { s with d := v }
  | .e v => { s with e := v }
  | .h v => { s with h := v }
  | .l v => { s with l := v }
  | .sp v => { s with sp := v }
  | .pc v => { s with pc := v }
  | .ime v => { s with ime := v }
  | .imePending v => { s with imePending := v }
  | .haltBug v => { s with haltBug := v }

/-- Stores bytes at consecutive addresses, the first at `addr`. -/
def State.placeBytes : List Byte → Word → State → State
  | [], _, s => s
  | v :: vs, addr, s => State.placeBytes vs (addr + 1) (s.writeByte addr v)

end Sys2Proof.Machine
end

