-- ==== Sys2Proof/Machine/Flags.lean ====
section
/-! DEFINITION. The flags byte, and every result and flag computation the instruction rules give.
Sums and differences are compared as integers and narrowed explicitly (R10). -/

namespace Sys2Proof.Machine

/-! ### The flags byte (R120, R121) -/

/-- `to_byte(F)`: Z, N, H, C in bits 7 to 4, bits 3 to 0 zero. -/
def Flags.toByte (f : Flags) : Byte :=
  BitVec.ofNat 8 (f.z.toNat * 128 + f.n.toNat * 64 + f.h.toNat * 32 + f.c.toNat * 16)

/-- `from_byte(b)`: bits 3 to 0 are ignored. -/
def Flags.ofByte (v : Byte) : Flags := ⟨v.getLsbD 7, v.getLsbD 6, v.getLsbD 5, v.getLsbD 4⟩

/-- `get_AF()` (R113). -/
def State.af (s : State) : Word := concat16 s.a s.f.toByte

/-- `set_AF(v)` (R113): the low nibble is dropped. -/
def State.setAF (v : Word) (s : State) : State := { s with a := hiByte v, f := Flags.ofByte (loByte v) }

/-! ### The accumulator operations (R510 to R547): the result and the flags -/

/-- ADD and ADC (R510, R515) with the carry in. -/
def addBytes (a v : Byte) (cin : Bool) : Byte × Flags :=
  let s := a.toNat + v.toNat + cin.toNat
  let res := BitVec.ofNat 8 s
  (res, ⟨res == 0#8, false, decide ((a &&& 0xF#8).toNat + (v &&& 0xF#8).toNat + cin.toNat > 0xF), decide (s > 0xFF)⟩)

/-- SUB, SBC and CP (R520, R525, R545) with the borrow in. -/
def subBytes (a v : Byte) (cin : Bool) : Byte × Flags :=
  let d : Int := a.toNat - v.toNat - cin.toNat
  let res := BitVec.ofInt 8 d
  (res, ⟨res == 0#8, true, decide ((a &&& 0xF#8).toNat < (v &&& 0xF#8).toNat + cin.toNat),
    decide (a.toNat < v.toNat + cin.toNat)⟩)

/-- The flags of AND, XOR and OR (R530, R535, R540): H is 1 for AND alone. -/
def logicFlags (res : Byte) (half : Bool) : Flags := ⟨res == 0#8, false, half, false⟩

/-- The result and flags of an ALU operation on A, its second operand and the carry flag (R500, R315).
CP's result is A itself: it is not written (R545). -/
def alu (op : AluOp) (a v : Byte) (carry : Bool) : Byte × Flags :=
  match op with
  | .add => addBytes a v false
  | .adc => addBytes a v carry
  | .sub => subBytes a v false
  | .sbc => subBytes a v carry
  | .and => (a &&& v, logicFlags (a &&& v) true)
  | .xor => (a ^^^ v, logicFlags (a ^^^ v) false)
  | .or => (a ||| v, logicFlags (a ||| v) false)
  | .cp => (a, (subBytes a v false).2)

/-! ### INC, DEC, DAA and the flag instructions -/

/-- INC of a byte (R550): C is kept. -/
def incByte (v : Byte) (f : Flags) : Byte × Flags :=
  let res := v + 1#8
  (res, ⟨res == 0#8, false, (v &&& 0xF#8) == 0xF#8, f.c⟩)

/-- DEC of a byte (R555): C is kept. -/
def decByte (v : Byte) (f : Flags) : Byte × Flags :=
  let res := v - 1#8
  (res, ⟨res == 0#8, true, (v &&& 0xF#8) == 0x0#8, f.c⟩)

/-- DAA (R560). -/
def decimalAdjust (a : Byte) (f : Flags) : Byte × Flags :=
  if f.n then
    let a1 := if f.c then a - 0x60#8 else a
    let a2 := if f.h then a1 - 0x06#8 else a1
    (a2, ⟨a2 == 0#8, f.n, false, f.c⟩)
  else
    let high := f.c || decide (a.toNat > 0x99)
    let a1 := if high then a + 0x60#8 else a
    let a2 := if f.h || decide ((a &&& 0x0F#8).toNat > 0x09) then a1 + 0x06#8 else a1
    (a2, ⟨a2 == 0#8, f.n, false, high⟩)

/-! ### 16-bit arithmetic -/

/-- ADD HL,rr (R600): carries out of bits 11 and 15; Z is kept. -/
def addWords (a v : Word) (f : Flags) : Word × Flags :=
  let s := a.toNat + v.toNat
  (BitVec.ofNat 16 s,
    ⟨f.z, false, decide ((a &&& 0xFFF#16).toNat + (v &&& 0xFFF#16).toNat > 0xFFF), decide (s > 0xFFFF)⟩)

/-- SP + e8 with the flags of ADD SP,e8 and LD HL,SP+e8 (R630, R930): the carries of the unsigned addition of SP's low
byte and the byte, whatever its sign. -/
def addSigned (sp : Word) (u : Byte) : Word × Flags :=
  (sp + sext16 u,
    ⟨false, false, decide ((sp &&& 0xF#16).toNat + (u &&& 0xF#8).toNat > 0xF),
      decide ((sp &&& 0xFF#16).toNat + u.toNat > 0xFF)⟩)

/-! ### Rotates and shifts (R1000 to R1025): the result and the bit shifted out -/

/-- A bit as a byte 0 or 1. -/
def bitByte (v : Bool) : Byte := (BitVec.ofBool v).setWidth 8

/-- The eight rotate and shift operations of R316, with the carry flag before. -/
def rotate (op : RotOp) (v : Byte) (carry : Bool) : Byte × Bool :=
  match op with
  | .rlc => ((v <<< 1) ||| (v >>> 7), v.getLsbD 7)
  | .rrc => ((v >>> 1) ||| (v <<< 7), v.getLsbD 0)
  | .rl => ((v <<< 1) ||| bitByte carry, v.getLsbD 7)
  | .rr => ((v >>> 1) ||| (bitByte carry <<< 7), v.getLsbD 0)
  | .sla => (v <<< 1, v.getLsbD 7)
  | .sra => ((v >>> 1) ||| (v &&& 0x80#8), v.getLsbD 0)
  | .swap => ((v <<< 4) ||| (v >>> 4), false)
  | .srl => (v >>> 1, v.getLsbD 0)

/-- The flags of a CB rotate or shift: Z from the result, N and H zero, C the bit shifted out (R1010 to R1025). -/
def rotateFlags (res : Byte) (out : Bool) : Flags := ⟨res == 0#8, false, false, out⟩

/-- The flags of RLCA, RRCA, RLA and RRA: Z is always 0 (R1000 to R1003). -/
def accRotateFlags (out : Bool) : Flags := ⟨false, false, false, out⟩

/-- The flags of BIT (R1030): Z the complement of the bit, C kept. -/
def bitTestFlags (v : Byte) (b : Fin 8) (f : Flags) : Flags := ⟨!v.getLsbD b.val, false, true, f.c⟩

/-- The byte with only bit b set. -/
def bitMask (b : Fin 8) : Byte := 1#8 <<< b.val

/-! ### Conditions -/

/-- The condition of a code (R313, R425), on the flags before the instruction. -/
def condHolds (cc : Cond) (f : Flags) : Bool :=
  match cc with
  | .nz => !f.z
  | .z => f.z
  | .nc => !f.c
  | .c => f.c

/-- `cond(t)` (R425). -/
def jumpTestHolds (t : JumpTest) (f : Flags) : Bool :=
  match t with
  | .cond cc => condHolds cc f
  | .always => true

end Sys2Proof.Machine
end

