-- ==== Sys2Proof/Machine/Operands.lean ====
section
/-! DEFINITION. Operand access shared by the instruction rules: immediates, 8-bit operands, register pairs and
addresses. What reads the bus answers the state after it too (R202).
An instruction's base address is the PC its meaning is given (R14, notes/assumptions/7.md). -/

namespace Sys2Proof.Machine

/-- `imm8` (R14): the byte at pc + 1, and the state after its read. -/
def State.readImm8 (s : State) (P : Params := Params.default) : Byte × State := s.memRead (s.pc + 1) P

/-- `imm16` (R14): the little-endian word at pc + 1 (R210), and the state after its two reads. -/
def State.readImm16 (s : State) (P : Params := Params.default) : Word × State := s.memRead2 (s.pc + 1) P

/-- `read8(r)` (R420): the operand, and the state after its read. -/
def State.read8 (r : R8) (s : State) (P : Params := Params.default) : Byte × State :=
  match r with
  | .b => (s.b, s)
  | .c => (s.c, s)
  | .d => (s.d, s)
  | .e => (s.e, s)
  | .h => (s.h, s)
  | .l => (s.l, s)
  | .hlInd => s.memRead s.hl P
  | .a => (s.a, s)

/-- `write8(r, v)` (R421). -/
def State.setR8 (r : R8) (v : Byte) (s : State) (P : Params := Params.default) : State :=
  match r with
  | .b => { s with b := v }
  | .c => { s with c := v }
  | .d => { s with d := v }
  | .e => { s with e := v }
  | .h => { s with h := v }
  | .l => { s with l := v }
  | .hlInd => s.writeByte s.hl v P
  | .a => { s with a := v }

/-- `imm8` over plain RAM. -/
def State.imm8 (s : State) : Byte := s.readImm8.1

/-- `imm16` over plain RAM. -/
def State.imm16 (s : State) : Word := s.readImm16.1

/-- `read8(r)` over plain RAM. -/
def State.getR8 (r : R8) (s : State) : Byte := (s.read8 r).1

/-- Reads `R16[p]` (R311, R422). -/
def State.getR16 (rr : R16) (s : State) : Word :=
  match rr with
  | .bc => s.bc
  | .de => s.de
  | .hl => s.hl
  | .sp => s.sp

/-- Writes `R16[p]` (R311, R422). -/
def State.setR16 (rr : R16) (v : Word) (s : State) : State :=
  match rr with
  | .bc => s.setBC v
  | .de => s.setDE v
  | .hl => s.setHL v
  | .sp => s.setSp v

/-- Reads `R16stk[p]` (R312, R422). -/
def State.getR16stk (rr : R16stk) (s : State) : Word :=
  match rr with
  | .bc => s.bc
  | .de => s.de
  | .hl => s.hl
  | .af => s.af

/-- Writes `R16stk[p]` (R312, R422): AF drops the low nibble (R113). -/
def State.setR16stk (rr : R16stk) (v : Word) (s : State) : State :=
  match rr with
  | .bc => s.setBC v
  | .de => s.setDE v
  | .hl => s.setHL v
  | .af => s.setAF v

/-- The address of `R16mem[p]` (R314). -/
def State.memAddr (m : R16mem) (s : State) : Word :=
  match m with
  | .bc => s.bc
  | .de => s.de
  | .hlInc => s.hl
  | .hlDec => s.hl

/-- What the use of `R16mem[p]` does to HL after the access (R314): (HL+) increments it, (HL-) decrements it. -/
def State.afterMem (m : R16mem) (s : State) : State :=
  match m with
  | .bc => s
  | .de => s
  | .hlInc => s.setHL (s.hl + 1)
  | .hlDec => s.setHL (s.hl - 1)

/-- The address an offset byte selects in the high page (R319, R825): 0xFF00 | n. -/
def highPage (n : Byte) : Word := 0xFF00#16 ||| n.setWidth 16

end Sys2Proof.Machine
end

