-- ==== Sys2Proof/Machine/Alu16.lean ====
section
/-! DEFINITION. 16-bit arithmetic (42_alu_16bit.md): ADD HL,rr; INC rr; DEC rr; ADD SP,e8. -/

namespace Sys2Proof.Machine

/-! ### Shared operations -/

/-- ADD HL,rr (R600): rr is read before HL is written. -/
def addHLR16 (rr : R16) (s : State) : Result :=
  let x := addWords s.hl (s.getR16 rr) s.f
  .next (((s.setF x.2).setHL x.1).advance 1)

/-- INC rr (R610): no flag. -/
def incR16 (rr : R16) (s : State) : Result := .next ((s.setR16 rr (s.getR16 rr + 1)).advance 1)

/-- DEC rr (R620): no flag. -/
def decR16 (rr : R16) (s : State) : Result := .next ((s.setR16 rr (s.getR16 rr - 1)).advance 1)

/-! ### The instructions -/

/-- ADD HL,BC (09, R600). -/
def exec_add_HL_BC (s : State) (_P : Params := Params.default) : Result := addHLR16 .bc s

/-- ADD HL,DE (19, R600). -/
def exec_add_HL_DE (s : State) (_P : Params := Params.default) : Result := addHLR16 .de s

/-- ADD HL,HL (29, R600). -/
def exec_add_HL_HL (s : State) (_P : Params := Params.default) : Result := addHLR16 .hl s

/-- ADD HL,SP (39, R600). -/
def exec_add_HL_SP (s : State) (_P : Params := Params.default) : Result := addHLR16 .sp s

/-- INC BC (03, R610). -/
def exec_inc_BC (s : State) (_P : Params := Params.default) : Result := incR16 .bc s

/-- INC DE (13, R610). -/
def exec_inc_DE (s : State) (_P : Params := Params.default) : Result := incR16 .de s

/-- INC HL (23, R610). -/
def exec_inc_HL (s : State) (_P : Params := Params.default) : Result := incR16 .hl s

/-- INC SP (33, R610). -/
def exec_inc_SP (s : State) (_P : Params := Params.default) : Result := incR16 .sp s

/-- DEC BC (0B, R620). -/
def exec_dec_BC (s : State) (_P : Params := Params.default) : Result := decR16 .bc s

/-- DEC DE (1B, R620). -/
def exec_dec_DE (s : State) (_P : Params := Params.default) : Result := decR16 .de s

/-- DEC HL (2B, R620). -/
def exec_dec_HL (s : State) (_P : Params := Params.default) : Result := decR16 .hl s

/-- DEC SP (3B, R620). -/
def exec_dec_SP (s : State) (_P : Params := Params.default) : Result := decR16 .sp s

/-- ADD SP,e8 (E8, R630). -/
def exec_add_SP_e8 (s : State) (P : Params := Params.default) : Result :=
  let u := s.readImm8 P
  let x := addSigned s.sp u.1
  .next (((u.2.setF x.2).setSp x.1).advance 2)

end Sys2Proof.Machine
end

