-- ==== Sys2Proof/Machine/Alu8.lean ====
section
/-! DEFINITION. 8-bit arithmetic and logic (41_alu_8bit.md): ADD, ADC, SUB, SBC, AND, XOR, OR, CP in their three operand
forms (R500); INC and DEC of a byte; DAA, CPL, SCF, CCF. -/

namespace Sys2Proof.Machine

/-! ### Shared operations -/

/-- An ALU operation on A and the second operand v, in an instruction of `len` bytes (R500). -/
def aluOnA (op : AluOp) (v : Byte) (len : Nat) (s : State) : Result :=
  let r := alu op s.a v s.f.c
  .next (((s.setA r.1).setF r.2).advance len)

/-- The r and (HL) forms (R500). -/
def aluR8 (op : AluOp) (src : R8) (s : State) (P : Params) : Result :=
  let v := s.read8 src P
  aluOnA op v.1 1 v.2

/-- The d8 form (R500). -/
def aluD8 (op : AluOp) (s : State) (P : Params) : Result :=
  let v := s.readImm8 P
  aluOnA op v.1 2 v.2

/-- INC r and INC (HL) (R550, R551): read, flags, then write. -/
def incR8 (r : R8) (s : State) (P : Params) : Result :=
  let v := s.read8 r P
  let x := incByte v.1 s.f
  .next (((v.2.setF x.2).setR8 r x.1 P).advance 1)

/-- DEC r and DEC (HL) (R555, R556). -/
def decR8 (r : R8) (s : State) (P : Params) : Result :=
  let v := s.read8 r P
  let x := decByte v.1 s.f
  .next (((v.2.setF x.2).setR8 r x.1 P).advance 1)

/-! ### The instructions -/

/-- ADD A,B (80, R510). -/
def exec_add_A_B (s : State) (P : Params := Params.default) : Result := aluR8 .add .b s P

/-- ADD A,C (81, R510). -/
def exec_add_A_C (s : State) (P : Params := Params.default) : Result := aluR8 .add .c s P

/-- ADD A,D (82, R510). -/
def exec_add_A_D (s : State) (P : Params := Params.default) : Result := aluR8 .add .d s P

/-- ADD A,E (83, R510). -/
def exec_add_A_E (s : State) (P : Params := Params.default) : Result := aluR8 .add .e s P

/-- ADD A,H (84, R510). -/
def exec_add_A_H (s : State) (P : Params := Params.default) : Result := aluR8 .add .h s P

/-- ADD A,L (85, R510). -/
def exec_add_A_L (s : State) (P : Params := Params.default) : Result := aluR8 .add .l s P

/-- ADD A,(HL) (86, R511). -/
def exec_add_A_atHL (s : State) (P : Params := Params.default) : Result := aluR8 .add .hlInd s P

/-- ADD A,A (87, R510). -/
def exec_add_A_A (s : State) (P : Params := Params.default) : Result := aluR8 .add .a s P

/-- ADC A,B (88, R515). -/
def exec_adc_A_B (s : State) (P : Params := Params.default) : Result := aluR8 .adc .b s P

/-- ADC A,C (89, R515). -/
def exec_adc_A_C (s : State) (P : Params := Params.default) : Result := aluR8 .adc .c s P

/-- ADC A,D (8A, R515). -/
def exec_adc_A_D (s : State) (P : Params := Params.default) : Result := aluR8 .adc .d s P

/-- ADC A,E (8B, R515). -/
def exec_adc_A_E (s : State) (P : Params := Params.default) : Result := aluR8 .adc .e s P

/-- ADC A,H (8C, R515). -/
def exec_adc_A_H (s : State) (P : Params := Params.default) : Result := aluR8 .adc .h s P

/-- ADC A,L (8D, R515). -/
def exec_adc_A_L (s : State) (P : Params := Params.default) : Result := aluR8 .adc .l s P

/-- ADC A,(HL) (8E, R516). -/
def exec_adc_A_atHL (s : State) (P : Params := Params.default) : Result := aluR8 .adc .hlInd s P

/-- ADC A,A (8F, R515). -/
def exec_adc_A_A (s : State) (P : Params := Params.default) : Result := aluR8 .adc .a s P

/-- SUB A,B (90, R520). -/
def exec_sub_A_B (s : State) (P : Params := Params.default) : Result := aluR8 .sub .b s P

/-- SUB A,C (91, R520). -/
def exec_sub_A_C (s : State) (P : Params := Params.default) : Result := aluR8 .sub .c s P

/-- SUB A,D (92, R520). -/
def exec_sub_A_D (s : State) (P : Params := Params.default) : Result := aluR8 .sub .d s P

/-- SUB A,E (93, R520). -/
def exec_sub_A_E (s : State) (P : Params := Params.default) : Result := aluR8 .sub .e s P

/-- SUB A,H (94, R520). -/
def exec_sub_A_H (s : State) (P : Params := Params.default) : Result := aluR8 .sub .h s P

/-- SUB A,L (95, R520). -/
def exec_sub_A_L (s : State) (P : Params := Params.default) : Result := aluR8 .sub .l s P

/-- SUB A,(HL) (96, R521). -/
def exec_sub_A_atHL (s : State) (P : Params := Params.default) : Result := aluR8 .sub .hlInd s P

/-- SUB A,A (97, R520). -/
def exec_sub_A_A (s : State) (P : Params := Params.default) : Result := aluR8 .sub .a s P

/-- SBC A,B (98, R525). -/
def exec_sbc_A_B (s : State) (P : Params := Params.default) : Result := aluR8 .sbc .b s P

/-- SBC A,C (99, R525). -/
def exec_sbc_A_C (s : State) (P : Params := Params.default) : Result := aluR8 .sbc .c s P

/-- SBC A,D (9A, R525). -/
def exec_sbc_A_D (s : State) (P : Params := Params.default) : Result := aluR8 .sbc .d s P

/-- SBC A,E (9B, R525). -/
def exec_sbc_A_E (s : State) (P : Params := Params.default) : Result := aluR8 .sbc .e s P

/-- SBC A,H (9C, R525). -/
def exec_sbc_A_H (s : State) (P : Params := Params.default) : Result := aluR8 .sbc .h s P

/-- SBC A,L (9D, R525). -/
def exec_sbc_A_L (s : State) (P : Params := Params.default) : Result := aluR8 .sbc .l s P

/-- SBC A,(HL) (9E, R526). -/
def exec_sbc_A_atHL (s : State) (P : Params := Params.default) : Result := aluR8 .sbc .hlInd s P

/-- SBC A,A (9F, R525). -/
def exec_sbc_A_A (s : State) (P : Params := Params.default) : Result := aluR8 .sbc .a s P

/-- AND A,B (A0, R530). -/
def exec_and_A_B (s : State) (P : Params := Params.default) : Result := aluR8 .and .b s P

/-- AND A,C (A1, R530). -/
def exec_and_A_C (s : State) (P : Params := Params.default) : Result := aluR8 .and .c s P

/-- AND A,D (A2, R530). -/
def exec_and_A_D (s : State) (P : Params := Params.default) : Result := aluR8 .and .d s P

/-- AND A,E (A3, R530). -/
def exec_and_A_E (s : State) (P : Params := Params.default) : Result := aluR8 .and .e s P

/-- AND A,H (A4, R530). -/
def exec_and_A_H (s : State) (P : Params := Params.default) : Result := aluR8 .and .h s P

/-- AND A,L (A5, R530). -/
def exec_and_A_L (s : State) (P : Params := Params.default) : Result := aluR8 .and .l s P

/-- AND A,(HL) (A6, R531). -/
def exec_and_A_atHL (s : State) (P : Params := Params.default) : Result := aluR8 .and .hlInd s P

/-- AND A,A (A7, R530). -/
def exec_and_A_A (s : State) (P : Params := Params.default) : Result := aluR8 .and .a s P

/-- XOR A,B (A8, R535). -/
def exec_xor_A_B (s : State) (P : Params := Params.default) : Result := aluR8 .xor .b s P

/-- XOR A,C (A9, R535). -/
def exec_xor_A_C (s : State) (P : Params := Params.default) : Result := aluR8 .xor .c s P

/-- XOR A,D (AA, R535). -/
def exec_xor_A_D (s : State) (P : Params := Params.default) : Result := aluR8 .xor .d s P

/-- XOR A,E (AB, R535). -/
def exec_xor_A_E (s : State) (P : Params := Params.default) : Result := aluR8 .xor .e s P

/-- XOR A,H (AC, R535). -/
def exec_xor_A_H (s : State) (P : Params := Params.default) : Result := aluR8 .xor .h s P

/-- XOR A,L (AD, R535). -/
def exec_xor_A_L (s : State) (P : Params := Params.default) : Result := aluR8 .xor .l s P

/-- XOR A,(HL) (AE, R536). -/
def exec_xor_A_atHL (s : State) (P : Params := Params.default) : Result := aluR8 .xor .hlInd s P

/-- XOR A,A (AF, R535). -/
def exec_xor_A_A (s : State) (P : Params := Params.default) : Result := aluR8 .xor .a s P

/-- OR A,B (B0, R540). -/
def exec_or_A_B (s : State) (P : Params := Params.default) : Result := aluR8 .or .b s P

/-- OR A,C (B1, R540). -/
def exec_or_A_C (s : State) (P : Params := Params.default) : Result := aluR8 .or .c s P

/-- OR A,D (B2, R540). -/
def exec_or_A_D (s : State) (P : Params := Params.default) : Result := aluR8 .or .d s P

/-- OR A,E (B3, R540). -/
def exec_or_A_E (s : State) (P : Params := Params.default) : Result := aluR8 .or .e s P

/-- OR A,H (B4, R540). -/
def exec_or_A_H (s : State) (P : Params := Params.default) : Result := aluR8 .or .h s P

/-- OR A,L (B5, R540). -/
def exec_or_A_L (s : State) (P : Params := Params.default) : Result := aluR8 .or .l s P

/-- OR A,(HL) (B6, R541). -/
def exec_or_A_atHL (s : State) (P : Params := Params.default) : Result := aluR8 .or .hlInd s P

/-- OR A,A (B7, R540). -/
def exec_or_A_A (s : State) (P : Params := Params.default) : Result := aluR8 .or .a s P

/-- CP A,B (B8, R545). -/
def exec_cp_A_B (s : State) (P : Params := Params.default) : Result := aluR8 .cp .b s P

/-- CP A,C (B9, R545). -/
def exec_cp_A_C (s : State) (P : Params := Params.default) : Result := aluR8 .cp .c s P

/-- CP A,D (BA, R545). -/
def exec_cp_A_D (s : State) (P : Params := Params.default) : Result := aluR8 .cp .d s P

/-- CP A,E (BB, R545). -/
def exec_cp_A_E (s : State) (P : Params := Params.default) : Result := aluR8 .cp .e s P

/-- CP A,H (BC, R545). -/
def exec_cp_A_H (s : State) (P : Params := Params.default) : Result := aluR8 .cp .h s P

/-- CP A,L (BD, R545). -/
def exec_cp_A_L (s : State) (P : Params := Params.default) : Result := aluR8 .cp .l s P

/-- CP A,(HL) (BE, R546). -/
def exec_cp_A_atHL (s : State) (P : Params := Params.default) : Result := aluR8 .cp .hlInd s P

/-- CP A,A (BF, R545). -/
def exec_cp_A_A (s : State) (P : Params := Params.default) : Result := aluR8 .cp .a s P

/-- ADD A,d8 (C6, R512). -/
def exec_add_A_d8 (s : State) (P : Params := Params.default) : Result := aluD8 .add s P

/-- ADC A,d8 (CE, R517). -/
def exec_adc_A_d8 (s : State) (P : Params := Params.default) : Result := aluD8 .adc s P

/-- SUB A,d8 (D6, R522). -/
def exec_sub_A_d8 (s : State) (P : Params := Params.default) : Result := aluD8 .sub s P

/-- SBC A,d8 (DE, R527). -/
def exec_sbc_A_d8 (s : State) (P : Params := Params.default) : Result := aluD8 .sbc s P

/-- AND A,d8 (E6, R532). -/
def exec_and_A_d8 (s : State) (P : Params := Params.default) : Result := aluD8 .and s P

/-- XOR A,d8 (EE, R537). -/
def exec_xor_A_d8 (s : State) (P : Params := Params.default) : Result := aluD8 .xor s P

/-- OR A,d8 (F6, R542). -/
def exec_or_A_d8 (s : State) (P : Params := Params.default) : Result := aluD8 .or s P

/-- CP A,d8 (FE, R547). -/
def exec_cp_A_d8 (s : State) (P : Params := Params.default) : Result := aluD8 .cp s P

/-- INC B (04, R550). -/
def exec_inc_B (s : State) (P : Params := Params.default) : Result := incR8 .b s P

/-- INC C (0C, R550). -/
def exec_inc_C (s : State) (P : Params := Params.default) : Result := incR8 .c s P

/-- INC D (14, R550). -/
def exec_inc_D (s : State) (P : Params := Params.default) : Result := incR8 .d s P

/-- INC E (1C, R550). -/
def exec_inc_E (s : State) (P : Params := Params.default) : Result := incR8 .e s P

/-- INC H (24, R550). -/
def exec_inc_H (s : State) (P : Params := Params.default) : Result := incR8 .h s P

/-- INC L (2C, R550). -/
def exec_inc_L (s : State) (P : Params := Params.default) : Result := incR8 .l s P

/-- INC (HL) (34, R551). -/
def exec_inc_atHL (s : State) (P : Params := Params.default) : Result := incR8 .hlInd s P

/-- INC A (3C, R550). -/
def exec_inc_A (s : State) (P : Params := Params.default) : Result := incR8 .a s P

/-- DEC B (05, R555). -/
def exec_dec_B (s : State) (P : Params := Params.default) : Result := decR8 .b s P

/-- DEC C (0D, R555). -/
def exec_dec_C (s : State) (P : Params := Params.default) : Result := decR8 .c s P

/-- DEC D (15, R555). -/
def exec_dec_D (s : State) (P : Params := Params.default) : Result := decR8 .d s P

/-- DEC E (1D, R555). -/
def exec_dec_E (s : State) (P : Params := Params.default) : Result := decR8 .e s P

/-- DEC H (25, R555). -/
def exec_dec_H (s : State) (P : Params := Params.default) : Result := decR8 .h s P

/-- DEC L (2D, R555). -/
def exec_dec_L (s : State) (P : Params := Params.default) : Result := decR8 .l s P

/-- DEC (HL) (35, R556). -/
def exec_dec_atHL (s : State) (P : Params := Params.default) : Result := decR8 .hlInd s P

/-- DEC A (3D, R555). -/
def exec_dec_A (s : State) (P : Params := Params.default) : Result := decR8 .a s P

/-- DAA (27, R560). -/
def exec_daa (s : State) (_P : Params := Params.default) : Result :=
  let x := decimalAdjust s.a s.f
  .next (((s.setA x.1).setF x.2).advance 1)

/-- CPL (2F, R565). -/
def exec_cpl (s : State) (_P : Params := Params.default) : Result := .next (((s.setA (~~~s.a)).setF ⟨s.f.z, true, true, s.f.c⟩).advance 1)

/-- SCF (37, R570). -/
def exec_scf (s : State) (_P : Params := Params.default) : Result := .next ((s.setF ⟨s.f.z, false, false, true⟩).advance 1)

/-- CCF (3F, R575). -/
def exec_ccf (s : State) (_P : Params := Params.default) : Result := .next ((s.setF ⟨s.f.z, false, false, !s.f.c⟩).advance 1)

end Sys2Proof.Machine
end

