-- ==== Sys2Proof/Machine/Control.lean ====
section
/-! DEFINITION. Control transfer (43_control_transfer.md): JP, JR, CALL, RET, RETI, RST. No flag is written (R770: no
delay slot and no link register). -/

namespace Sys2Proof.Machine

/-! ### Shared operations -/

/-- JP cc,a16 and JP a16 (R700, R701): the target is read whether or not the jump is taken (R220). -/
def jumpAbs (t : JumpTest) (s : State) (P : Params) : Result :=
  let target := s.readImm16 P
  .next (if jumpTestHolds t s.f then target.2.jumpTo target.1 else target.2.advance 3)

/-- JR cc,e8 and JR e8 (R720, R721): the offset is signed and relative to the address after the instruction; it is read
whether or not the jump is taken (R220). -/
def jumpRel (t : JumpTest) (s : State) (P : Params) : Result :=
  let e := s.readImm8 P
  .next (if jumpTestHolds t s.f then e.2.jumpTo (s.pc + 2 + sext16 e.1) else e.2.advance 2)

/-- CALL cc,a16 and CALL a16 (R730, R731): the target is read, taken or not (R220), then the address after the CALL is
pushed. -/
def callAbs (t : JumpTest) (s : State) (P : Params) : Result :=
  let target := s.readImm16 P
  .next (if jumpTestHolds t s.f then (target.2.push16 (s.pc + 3) P).jumpTo target.1 else target.2.advance 3)

/-- RET cc and RET (R740, R741): nothing is popped when the condition fails. -/
def returnIf (t : JumpTest) (s : State) (P : Params) : Result :=
  .next (if jumpTestHolds t s.f then (s.pop16 P).2.jumpTo (s.pop16 P).1 else s.advance 1)

/-- RST n (R760): pushes the address after it and goes to n * 8 (R318). -/
def restart (n : Fin 8) (s : State) (P : Params) : Result :=
  .next ((s.push16 (s.pc + 1) P).jumpTo (BitVec.ofNat 16 (n.val * 8)))

/-! ### The instructions -/

/-- JP NZ,a16 (C2, R700). -/
def exec_jp_NZ_a16 (s : State) (P : Params := Params.default) : Result := jumpAbs (.cond .nz) s P

/-- JP a16 (C3, R701). -/
def exec_jp_a16 (s : State) (P : Params := Params.default) : Result := jumpAbs .always s P

/-- JP Z,a16 (CA, R700). -/
def exec_jp_Z_a16 (s : State) (P : Params := Params.default) : Result := jumpAbs (.cond .z) s P

/-- JP NC,a16 (D2, R700). -/
def exec_jp_NC_a16 (s : State) (P : Params := Params.default) : Result := jumpAbs (.cond .nc) s P

/-- JP C,a16 (DA, R700). -/
def exec_jp_C_a16 (s : State) (P : Params := Params.default) : Result := jumpAbs (.cond .c) s P

/-- JP HL (E9, R710). -/
def exec_jp_HL (s : State) (_P : Params := Params.default) : Result := .next (s.jumpTo s.hl)

/-- JR e8 (18, R721). -/
def exec_jr_e8 (s : State) (P : Params := Params.default) : Result := jumpRel .always s P

/-- JR NZ,e8 (20, R720). -/
def exec_jr_NZ_e8 (s : State) (P : Params := Params.default) : Result := jumpRel (.cond .nz) s P

/-- JR Z,e8 (28, R720). -/
def exec_jr_Z_e8 (s : State) (P : Params := Params.default) : Result := jumpRel (.cond .z) s P

/-- JR NC,e8 (30, R720). -/
def exec_jr_NC_e8 (s : State) (P : Params := Params.default) : Result := jumpRel (.cond .nc) s P

/-- JR C,e8 (38, R720). -/
def exec_jr_C_e8 (s : State) (P : Params := Params.default) : Result := jumpRel (.cond .c) s P

/-- CALL NZ,a16 (C4, R730). -/
def exec_call_NZ_a16 (s : State) (P : Params := Params.default) : Result := callAbs (.cond .nz) s P

/-- CALL Z,a16 (CC, R730). -/
def exec_call_Z_a16 (s : State) (P : Params := Params.default) : Result := callAbs (.cond .z) s P

/-- CALL a16 (CD, R731). -/
def exec_call_a16 (s : State) (P : Params := Params.default) : Result := callAbs .always s P

/-- CALL NC,a16 (D4, R730). -/
def exec_call_NC_a16 (s : State) (P : Params := Params.default) : Result := callAbs (.cond .nc) s P

/-- CALL C,a16 (DC, R730). -/
def exec_call_C_a16 (s : State) (P : Params := Params.default) : Result := callAbs (.cond .c) s P

/-- RET NZ (C0, R740). -/
def exec_ret_NZ (s : State) (P : Params := Params.default) : Result := returnIf (.cond .nz) s P

/-- RET Z (C8, R740). -/
def exec_ret_Z (s : State) (P : Params := Params.default) : Result := returnIf (.cond .z) s P

/-- RET NC (D0, R740). -/
def exec_ret_NC (s : State) (P : Params := Params.default) : Result := returnIf (.cond .nc) s P

/-- RET C (D8, R740). -/
def exec_ret_C (s : State) (P : Params := Params.default) : Result := returnIf (.cond .c) s P

/-- RET (C9, R741). -/
def exec_ret (s : State) (P : Params := Params.default) : Result := returnIf .always s P

/-- RETI (D9, R750): IME at once, without the delay of EI. -/
def exec_reti (s : State) (P : Params := Params.default) : Result := .next (s.returnFromInterrupt P)

/-- RST 0x00 (C7, R760). -/
def exec_rst_00 (s : State) (P : Params := Params.default) : Result := restart 0 s P

/-- RST 0x08 (CF, R760). -/
def exec_rst_08 (s : State) (P : Params := Params.default) : Result := restart 1 s P

/-- RST 0x10 (D7, R760). -/
def exec_rst_10 (s : State) (P : Params := Params.default) : Result := restart 2 s P

/-- RST 0x18 (DF, R760). -/
def exec_rst_18 (s : State) (P : Params := Params.default) : Result := restart 3 s P

/-- RST 0x20 (E7, R760). -/
def exec_rst_20 (s : State) (P : Params := Params.default) : Result := restart 4 s P

/-- RST 0x28 (EF, R760). -/
def exec_rst_28 (s : State) (P : Params := Params.default) : Result := restart 5 s P

/-- RST 0x30 (F7, R760). -/
def exec_rst_30 (s : State) (P : Params := Params.default) : Result := restart 6 s P

/-- RST 0x38 (FF, R760). -/
def exec_rst_38 (s : State) (P : Params := Params.default) : Result := restart 7 s P

end Sys2Proof.Machine
end

