-- ==== Sys2Proof/Machine/Load16.lean ====
section
/-! DEFINITION. 16-bit loads and the stack (45_loads_16bit_stack.md). -/

namespace Sys2Proof.Machine

/-! ### Shared operations -/

/-- LD rr,d16 (R900). -/
def ldR16D16 (rr : R16) (s : State) (P : Params) : Result :=
  let v := s.readImm16 P
  .next ((v.2.setR16 rr v.1).advance 3)

/-- PUSH rr and PUSH AF (R940, R941). -/
def pushPair (rr : R16stk) (s : State) (P : Params) : Result := .next ((s.push16 (s.getR16stk rr) P).advance 1)

/-- POP rr and POP AF (R950, R951). -/
def popPair (rr : R16stk) (s : State) (P : Params) : Result :=
  let x := s.pop16 P
  .next ((x.2.setR16stk rr x.1).advance 1)

/-! ### The instructions -/

/-- LD BC,d16 (01, R900). -/
def exec_ld_BC_d16 (s : State) (P : Params := Params.default) : Result := ldR16D16 .bc s P

/-- LD DE,d16 (11, R900). -/
def exec_ld_DE_d16 (s : State) (P : Params := Params.default) : Result := ldR16D16 .de s P

/-- LD HL,d16 (21, R900). -/
def exec_ld_HL_d16 (s : State) (P : Params := Params.default) : Result := ldR16D16 .hl s P

/-- LD SP,d16 (31, R900). -/
def exec_ld_SP_d16 (s : State) (P : Params := Params.default) : Result := ldR16D16 .sp s P

/-- LD (a16),SP (08, R910). -/
def exec_ld_atA16_SP (s : State) (P : Params := Params.default) : Result :=
  let a := s.readImm16 P
  .next ((a.2.writeWord a.1 s.sp P).advance 3)

/-- LD SP,HL (F9, R920). -/
def exec_ld_SP_HL (s : State) (_P : Params := Params.default) : Result := .next ((s.setSp s.hl).advance 1)

/-- LD HL,SP+e8 (F8, R930). -/
def exec_ld_HL_SPe8 (s : State) (P : Params := Params.default) : Result :=
  let u := s.readImm8 P
  let x := addSigned s.sp u.1
  .next (((u.2.setF x.2).setHL x.1).advance 2)

/-- PUSH BC (C5, R940). -/
def exec_push_BC (s : State) (P : Params := Params.default) : Result := pushPair .bc s P

/-- PUSH DE (D5, R940). -/
def exec_push_DE (s : State) (P : Params := Params.default) : Result := pushPair .de s P

/-- PUSH HL (E5, R940). -/
def exec_push_HL (s : State) (P : Params := Params.default) : Result := pushPair .hl s P

/-- PUSH AF (F5, R941). -/
def exec_push_AF (s : State) (P : Params := Params.default) : Result := pushPair .af s P

/-- POP BC (C1, R950). -/
def exec_pop_BC (s : State) (P : Params := Params.default) : Result := popPair .bc s P

/-- POP DE (D1, R950). -/
def exec_pop_DE (s : State) (P : Params := Params.default) : Result := popPair .de s P

/-- POP HL (E1, R950). -/
def exec_pop_HL (s : State) (P : Params := Params.default) : Result := popPair .hl s P

/-- POP AF (F1, R951). -/
def exec_pop_AF (s : State) (P : Params := Params.default) : Result := popPair .af s P

end Sys2Proof.Machine
end

