-- ==== Sys2Proof/Machine/Load8.lean ====
section
/-! DEFINITION. 8-bit loads (44_loads_8bit.md). No load writes a flag. -/

namespace Sys2Proof.Machine

/-! ### Shared operations -/

/-- LD r,r', LD r,(HL) and LD (HL),r (R800 to R802): the source is read first (R432). -/
def ldR8R8 (dst src : R8) (s : State) (P : Params) : Result :=
  let v := s.read8 src P
  .next ((v.2.setR8 dst v.1 P).advance 1)

/-- LD r,d8 and LD (HL),d8 (R805, R806): the immediate is read before the write. -/
def ldR8D8 (dst : R8) (s : State) (P : Params) : Result :=
  let v := s.readImm8 P
  .next ((v.2.setR8 dst v.1 P).advance 2)

/-- LD A,(BC), LD A,(DE), LD A,(HL+) and LD A,(HL-) (R810, R811, R815, R816). -/
def ldAM (m : R16mem) (s : State) (P : Params) : Result :=
  let v := s.memRead (s.memAddr m) P
  .next (((v.2.setA v.1).afterMem m).advance 1)

/-- LD (BC),A, LD (DE),A, LD (HL+),A and LD (HL-),A (R812, R813, R817, R818). -/
def ldMA (m : R16mem) (s : State) (P : Params) : Result :=
  .next (((s.writeByte (s.memAddr m) s.a P).afterMem m).advance 1)

/-- A from the byte at an address, in an instruction of `len` bytes (R820, R825, R827). -/
def loadA (addr : Word) (len : Nat) (s : State) (P : Params) : Result :=
  let v := s.memRead addr P
  .next ((v.2.setA v.1).advance len)

/-- A to the byte at an address, in an instruction of `len` bytes (R821, R826, R828). -/
def storeA (addr : Word) (len : Nat) (s : State) (P : Params) : Result := .next ((s.writeByte addr s.a P).advance len)

/-! ### The instructions -/

/-- LD B,B (40, R800). -/
def exec_ld_B_B (s : State) (P : Params := Params.default) : Result := ldR8R8 .b .b s P

/-- LD B,C (41, R800). -/
def exec_ld_B_C (s : State) (P : Params := Params.default) : Result := ldR8R8 .b .c s P

/-- LD B,D (42, R800). -/
def exec_ld_B_D (s : State) (P : Params := Params.default) : Result := ldR8R8 .b .d s P

/-- LD B,E (43, R800). -/
def exec_ld_B_E (s : State) (P : Params := Params.default) : Result := ldR8R8 .b .e s P

/-- LD B,H (44, R800). -/
def exec_ld_B_H (s : State) (P : Params := Params.default) : Result := ldR8R8 .b .h s P

/-- LD B,L (45, R800). -/
def exec_ld_B_L (s : State) (P : Params := Params.default) : Result := ldR8R8 .b .l s P

/-- LD B,(HL) (46, R801). -/
def exec_ld_B_atHL (s : State) (P : Params := Params.default) : Result := ldR8R8 .b .hlInd s P

/-- LD B,A (47, R800). -/
def exec_ld_B_A (s : State) (P : Params := Params.default) : Result := ldR8R8 .b .a s P

/-- LD C,B (48, R800). -/
def exec_ld_C_B (s : State) (P : Params := Params.default) : Result := ldR8R8 .c .b s P

/-- LD C,C (49, R800). -/
def exec_ld_C_C (s : State) (P : Params := Params.default) : Result := ldR8R8 .c .c s P

/-- LD C,D (4A, R800). -/
def exec_ld_C_D (s : State) (P : Params := Params.default) : Result := ldR8R8 .c .d s P

/-- LD C,E (4B, R800). -/
def exec_ld_C_E (s : State) (P : Params := Params.default) : Result := ldR8R8 .c .e s P

/-- LD C,H (4C, R800). -/
def exec_ld_C_H (s : State) (P : Params := Params.default) : Result := ldR8R8 .c .h s P

/-- LD C,L (4D, R800). -/
def exec_ld_C_L (s : State) (P : Params := Params.default) : Result := ldR8R8 .c .l s P

/-- LD C,(HL) (4E, R801). -/
def exec_ld_C_atHL (s : State) (P : Params := Params.default) : Result := ldR8R8 .c .hlInd s P

/-- LD C,A (4F, R800). -/
def exec_ld_C_A (s : State) (P : Params := Params.default) : Result := ldR8R8 .c .a s P

/-- LD D,B (50, R800). -/
def exec_ld_D_B (s : State) (P : Params := Params.default) : Result := ldR8R8 .d .b s P

/-- LD D,C (51, R800). -/
def exec_ld_D_C (s : State) (P : Params := Params.default) : Result := ldR8R8 .d .c s P

/-- LD D,D (52, R800). -/
def exec_ld_D_D (s : State) (P : Params := Params.default) : Result := ldR8R8 .d .d s P

/-- LD D,E (53, R800). -/
def exec_ld_D_E (s : State) (P : Params := Params.default) : Result := ldR8R8 .d .e s P

/-- LD D,H (54, R800). -/
def exec_ld_D_H (s : State) (P : Params := Params.default) : Result := ldR8R8 .d .h s P

/-- LD D,L (55, R800). -/
def exec_ld_D_L (s : State) (P : Params := Params.default) : Result := ldR8R8 .d .l s P

/-- LD D,(HL) (56, R801). -/
def exec_ld_D_atHL (s : State) (P : Params := Params.default) : Result := ldR8R8 .d .hlInd s P

/-- LD D,A (57, R800). -/
def exec_ld_D_A (s : State) (P : Params := Params.default) : Result := ldR8R8 .d .a s P

/-- LD E,B (58, R800). -/
def exec_ld_E_B (s : State) (P : Params := Params.default) : Result := ldR8R8 .e .b s P

/-- LD E,C (59, R800). -/
def exec_ld_E_C (s : State) (P : Params := Params.default) : Result := ldR8R8 .e .c s P

/-- LD E,D (5A, R800). -/
def exec_ld_E_D (s : State) (P : Params := Params.default) : Result := ldR8R8 .e .d s P

/-- LD E,E (5B, R800). -/
def exec_ld_E_E (s : State) (P : Params := Params.default) : Result := ldR8R8 .e .e s P

/-- LD E,H (5C, R800). -/
def exec_ld_E_H (s : State) (P : Params := Params.default) : Result := ldR8R8 .e .h s P

/-- LD E,L (5D, R800). -/
def exec_ld_E_L (s : State) (P : Params := Params.default) : Result := ldR8R8 .e .l s P

/-- LD E,(HL) (5E, R801). -/
def exec_ld_E_atHL (s : State) (P : Params := Params.default) : Result := ldR8R8 .e .hlInd s P

/-- LD E,A (5F, R800). -/
def exec_ld_E_A (s : State) (P : Params := Params.default) : Result := ldR8R8 .e .a s P

/-- LD H,B (60, R800). -/
def exec_ld_H_B (s : State) (P : Params := Params.default) : Result := ldR8R8 .h .b s P

/-- LD H,C (61, R800). -/
def exec_ld_H_C (s : State) (P : Params := Params.default) : Result := ldR8R8 .h .c s P

/-- LD H,D (62, R800). -/
def exec_ld_H_D (s : State) (P : Params := Params.default) : Result := ldR8R8 .h .d s P

/-- LD H,E (63, R800). -/
def exec_ld_H_E (s : State) (P : Params := Params.default) : Result := ldR8R8 .h .e s P

/-- LD H,H (64, R800). -/
def exec_ld_H_H (s : State) (P : Params := Params.default) : Result := ldR8R8 .h .h s P

/-- LD H,L (65, R800). -/
def exec_ld_H_L (s : State) (P : Params := Params.default) : Result := ldR8R8 .h .l s P

/-- LD H,(HL) (66, R801). -/
def exec_ld_H_atHL (s : State) (P : Params := Params.default) : Result := ldR8R8 .h .hlInd s P

/-- LD H,A (67, R800). -/
def exec_ld_H_A (s : State) (P : Params := Params.default) : Result := ldR8R8 .h .a s P

/-- LD L,B (68, R800). -/
def exec_ld_L_B (s : State) (P : Params := Params.default) : Result := ldR8R8 .l .b s P

/-- LD L,C (69, R800). -/
def exec_ld_L_C (s : State) (P : Params := Params.default) : Result := ldR8R8 .l .c s P

/-- LD L,D (6A, R800). -/
def exec_ld_L_D (s : State) (P : Params := Params.default) : Result := ldR8R8 .l .d s P

/-- LD L,E (6B, R800). -/
def exec_ld_L_E (s : State) (P : Params := Params.default) : Result := ldR8R8 .l .e s P

/-- LD L,H (6C, R800). -/
def exec_ld_L_H (s : State) (P : Params := Params.default) : Result := ldR8R8 .l .h s P

/-- LD L,L (6D, R800). -/
def exec_ld_L_L (s : State) (P : Params := Params.default) : Result := ldR8R8 .l .l s P

/-- LD L,(HL) (6E, R801). -/
def exec_ld_L_atHL (s : State) (P : Params := Params.default) : Result := ldR8R8 .l .hlInd s P

/-- LD L,A (6F, R800). -/
def exec_ld_L_A (s : State) (P : Params := Params.default) : Result := ldR8R8 .l .a s P

/-- LD (HL),B (70, R802). -/
def exec_ld_atHL_B (s : State) (P : Params := Params.default) : Result := ldR8R8 .hlInd .b s P

/-- LD (HL),C (71, R802). -/
def exec_ld_atHL_C (s : State) (P : Params := Params.default) : Result := ldR8R8 .hlInd .c s P

/-- LD (HL),D (72, R802). -/
def exec_ld_atHL_D (s : State) (P : Params := Params.default) : Result := ldR8R8 .hlInd .d s P

/-- LD (HL),E (73, R802). -/
def exec_ld_atHL_E (s : State) (P : Params := Params.default) : Result := ldR8R8 .hlInd .e s P

/-- LD (HL),H (74, R802). -/
def exec_ld_atHL_H (s : State) (P : Params := Params.default) : Result := ldR8R8 .hlInd .h s P

/-- LD (HL),L (75, R802). -/
def exec_ld_atHL_L (s : State) (P : Params := Params.default) : Result := ldR8R8 .hlInd .l s P

/-- LD (HL),A (77, R802). -/
def exec_ld_atHL_A (s : State) (P : Params := Params.default) : Result := ldR8R8 .hlInd .a s P

/-- LD A,B (78, R800). -/
def exec_ld_A_B (s : State) (P : Params := Params.default) : Result := ldR8R8 .a .b s P

/-- LD A,C (79, R800). -/
def exec_ld_A_C (s : State) (P : Params := Params.default) : Result := ldR8R8 .a .c s P

/-- LD A,D (7A, R800). -/
def exec_ld_A_D (s : State) (P : Params := Params.default) : Result := ldR8R8 .a .d s P

/-- LD A,E (7B, R800). -/
def exec_ld_A_E (s : State) (P : Params := Params.default) : Result := ldR8R8 .a .e s P

/-- LD A,H (7C, R800). -/
def exec_ld_A_H (s : State) (P : Params := Params.default) : Result := ldR8R8 .a .h s P

/-- LD A,L (7D, R800). -/
def exec_ld_A_L (s : State) (P : Params := Params.default) : Result := ldR8R8 .a .l s P

/-- LD A,(HL) (7E, R801). -/
def exec_ld_A_atHL (s : State) (P : Params := Params.default) : Result := ldR8R8 .a .hlInd s P

/-- LD A,A (7F, R800). -/
def exec_ld_A_A (s : State) (P : Params := Params.default) : Result := ldR8R8 .a .a s P

/-- LD B,d8 (06, R805). -/
def exec_ld_B_d8 (s : State) (P : Params := Params.default) : Result := ldR8D8 .b s P

/-- LD C,d8 (0E, R805). -/
def exec_ld_C_d8 (s : State) (P : Params := Params.default) : Result := ldR8D8 .c s P

/-- LD D,d8 (16, R805). -/
def exec_ld_D_d8 (s : State) (P : Params := Params.default) : Result := ldR8D8 .d s P

/-- LD E,d8 (1E, R805). -/
def exec_ld_E_d8 (s : State) (P : Params := Params.default) : Result := ldR8D8 .e s P

/-- LD H,d8 (26, R805). -/
def exec_ld_H_d8 (s : State) (P : Params := Params.default) : Result := ldR8D8 .h s P

/-- LD L,d8 (2E, R805). -/
def exec_ld_L_d8 (s : State) (P : Params := Params.default) : Result := ldR8D8 .l s P

/-- LD (HL),d8 (36, R806). -/
def exec_ld_atHL_d8 (s : State) (P : Params := Params.default) : Result := ldR8D8 .hlInd s P

/-- LD A,d8 (3E, R805). -/
def exec_ld_A_d8 (s : State) (P : Params := Params.default) : Result := ldR8D8 .a s P

/-- LD A,(BC) (0A, R810). -/
def exec_ld_A_atBC (s : State) (P : Params := Params.default) : Result := ldAM .bc s P

/-- LD A,(DE) (1A, R811). -/
def exec_ld_A_atDE (s : State) (P : Params := Params.default) : Result := ldAM .de s P

/-- LD A,(HL+) (2A, R815). -/
def exec_ld_A_atHLinc (s : State) (P : Params := Params.default) : Result := ldAM .hlInc s P

/-- LD A,(HL-) (3A, R816). -/
def exec_ld_A_atHLdec (s : State) (P : Params := Params.default) : Result := ldAM .hlDec s P

/-- LD (BC),A (02, R812). -/
def exec_ld_atBC_A (s : State) (P : Params := Params.default) : Result := ldMA .bc s P

/-- LD (DE),A (12, R813). -/
def exec_ld_atDE_A (s : State) (P : Params := Params.default) : Result := ldMA .de s P

/-- LD (HL+),A (22, R817). -/
def exec_ld_atHLinc_A (s : State) (P : Params := Params.default) : Result := ldMA .hlInc s P

/-- LD (HL-),A (32, R818). -/
def exec_ld_atHLdec_A (s : State) (P : Params := Params.default) : Result := ldMA .hlDec s P

/-- LD A,(a16) (FA, R820). -/
def exec_ld_A_atA16 (s : State) (P : Params := Params.default) : Result :=
  let a := s.readImm16 P
  loadA a.1 3 a.2 P

/-- LD (a16),A (EA, R821). -/
def exec_ld_atA16_A (s : State) (P : Params := Params.default) : Result :=
  let a := s.readImm16 P
  storeA a.1 3 a.2 P

/-- LDH A,(a8) (F0, R825). -/
def exec_ldh_A_atA8 (s : State) (P : Params := Params.default) : Result :=
  let n := s.readImm8 P
  loadA (highPage n.1) 2 n.2 P

/-- LDH (a8),A (E0, R826). -/
def exec_ldh_atA8_A (s : State) (P : Params := Params.default) : Result :=
  let n := s.readImm8 P
  storeA (highPage n.1) 2 n.2 P

/-- LDH A,(C) (F2, R827). -/
def exec_ldh_A_atC (s : State) (P : Params := Params.default) : Result := loadA (highPage s.c) 1 s P

/-- LDH (C),A (E2, R828). -/
def exec_ldh_atC_A (s : State) (P : Params := Params.default) : Result := storeA (highPage s.c) 1 s P

end Sys2Proof.Machine
end

