-- ==== Sys2Proof/Machine/RotateBit.lean ====
section
/-! DEFINITION. Rotates, shifts and bit operations (46_rotate_shift_bit.md): the accumulator rotates and the whole CB
table. A CB instruction's length of 2 counts its prefix once (R413). -/

namespace Sys2Proof.Machine

/-! ### Shared operations -/

/-- RLCA, RRCA, RLA, RRA (R1000 to R1003): Z is always cleared. -/
def rotateA (op : RotOp) (s : State) : Result :=
  let x := rotate op s.a s.f.c
  .next (((s.setA x.1).setF (accRotateFlags x.2)).advance 1)

/-- A CB rotate or shift on a register or (HL) (R1010 to R1025). -/
def rotateR8 (op : RotOp) (r : R8) (s : State) (P : Params) : Result :=
  let v := s.read8 r P
  let x := rotate op v.1 s.f.c
  .next (((v.2.setR8 r x.1 P).setF (rotateFlags x.1 x.2)).advance 2)

/-- BIT b,r and BIT b,(HL) (R1030, R1031): the operand is not written. -/
def testBitR8 (b : Fin 8) (r : R8) (s : State) (P : Params) : Result :=
  let v := s.read8 r P
  .next ((v.2.setF (bitTestFlags v.1 b s.f)).advance 2)

/-- RES b,r and RES b,(HL) (R1032, R1033). -/
def resetBitR8 (b : Fin 8) (r : R8) (s : State) (P : Params) : Result :=
  let v := s.read8 r P
  .next ((v.2.setR8 r (v.1 &&& ~~~bitMask b) P).advance 2)

/-- SET b,r and SET b,(HL) (R1034, R1035). -/
def setBitR8 (b : Fin 8) (r : R8) (s : State) (P : Params) : Result :=
  let v := s.read8 r P
  .next ((v.2.setR8 r (v.1 ||| bitMask b) P).advance 2)

/-! ### The instructions -/

/-- RLCA (07, R1000). -/
def exec_rlca (s : State) (_P : Params := Params.default) : Result := rotateA .rlc s

/-- RRCA (0F, R1001). -/
def exec_rrca (s : State) (_P : Params := Params.default) : Result := rotateA .rrc s

/-- RLA (17, R1002). -/
def exec_rla (s : State) (_P : Params := Params.default) : Result := rotateA .rl s

/-- RRA (1F, R1003). -/
def exec_rra (s : State) (_P : Params := Params.default) : Result := rotateA .rr s

/-- RLC B (CB 00, R1010). -/
def exec_rlc_B (s : State) (P : Params := Params.default) : Result := rotateR8 .rlc .b s P

/-- RLC C (CB 01, R1010). -/
def exec_rlc_C (s : State) (P : Params := Params.default) : Result := rotateR8 .rlc .c s P

/-- RLC D (CB 02, R1010). -/
def exec_rlc_D (s : State) (P : Params := Params.default) : Result := rotateR8 .rlc .d s P

/-- RLC E (CB 03, R1010). -/
def exec_rlc_E (s : State) (P : Params := Params.default) : Result := rotateR8 .rlc .e s P

/-- RLC H (CB 04, R1010). -/
def exec_rlc_H (s : State) (P : Params := Params.default) : Result := rotateR8 .rlc .h s P

/-- RLC L (CB 05, R1010). -/
def exec_rlc_L (s : State) (P : Params := Params.default) : Result := rotateR8 .rlc .l s P

/-- RLC (HL) (CB 06, R1011). -/
def exec_rlc_atHL (s : State) (P : Params := Params.default) : Result := rotateR8 .rlc .hlInd s P

/-- RLC A (CB 07, R1010). -/
def exec_rlc_A (s : State) (P : Params := Params.default) : Result := rotateR8 .rlc .a s P

/-- RRC B (CB 08, R1012). -/
def exec_rrc_B (s : State) (P : Params := Params.default) : Result := rotateR8 .rrc .b s P

/-- RRC C (CB 09, R1012). -/
def exec_rrc_C (s : State) (P : Params := Params.default) : Result := rotateR8 .rrc .c s P

/-- RRC D (CB 0A, R1012). -/
def exec_rrc_D (s : State) (P : Params := Params.default) : Result := rotateR8 .rrc .d s P

/-- RRC E (CB 0B, R1012). -/
def exec_rrc_E (s : State) (P : Params := Params.default) : Result := rotateR8 .rrc .e s P

/-- RRC H (CB 0C, R1012). -/
def exec_rrc_H (s : State) (P : Params := Params.default) : Result := rotateR8 .rrc .h s P

/-- RRC L (CB 0D, R1012). -/
def exec_rrc_L (s : State) (P : Params := Params.default) : Result := rotateR8 .rrc .l s P

/-- RRC (HL) (CB 0E, R1013). -/
def exec_rrc_atHL (s : State) (P : Params := Params.default) : Result := rotateR8 .rrc .hlInd s P

/-- RRC A (CB 0F, R1012). -/
def exec_rrc_A (s : State) (P : Params := Params.default) : Result := rotateR8 .rrc .a s P

/-- RL B (CB 10, R1014). -/
def exec_rl_B (s : State) (P : Params := Params.default) : Result := rotateR8 .rl .b s P

/-- RL C (CB 11, R1014). -/
def exec_rl_C (s : State) (P : Params := Params.default) : Result := rotateR8 .rl .c s P

/-- RL D (CB 12, R1014). -/
def exec_rl_D (s : State) (P : Params := Params.default) : Result := rotateR8 .rl .d s P

/-- RL E (CB 13, R1014). -/
def exec_rl_E (s : State) (P : Params := Params.default) : Result := rotateR8 .rl .e s P

/-- RL H (CB 14, R1014). -/
def exec_rl_H (s : State) (P : Params := Params.default) : Result := rotateR8 .rl .h s P

/-- RL L (CB 15, R1014). -/
def exec_rl_L (s : State) (P : Params := Params.default) : Result := rotateR8 .rl .l s P

/-- RL (HL) (CB 16, R1015). -/
def exec_rl_atHL (s : State) (P : Params := Params.default) : Result := rotateR8 .rl .hlInd s P

/-- RL A (CB 17, R1014). -/
def exec_rl_A (s : State) (P : Params := Params.default) : Result := rotateR8 .rl .a s P

/-- RR B (CB 18, R1016). -/
def exec_rr_B (s : State) (P : Params := Params.default) : Result := rotateR8 .rr .b s P

/-- RR C (CB 19, R1016). -/
def exec_rr_C (s : State) (P : Params := Params.default) : Result := rotateR8 .rr .c s P

/-- RR D (CB 1A, R1016). -/
def exec_rr_D (s : State) (P : Params := Params.default) : Result := rotateR8 .rr .d s P

/-- RR E (CB 1B, R1016). -/
def exec_rr_E (s : State) (P : Params := Params.default) : Result := rotateR8 .rr .e s P

/-- RR H (CB 1C, R1016). -/
def exec_rr_H (s : State) (P : Params := Params.default) : Result := rotateR8 .rr .h s P

/-- RR L (CB 1D, R1016). -/
def exec_rr_L (s : State) (P : Params := Params.default) : Result := rotateR8 .rr .l s P

/-- RR (HL) (CB 1E, R1017). -/
def exec_rr_atHL (s : State) (P : Params := Params.default) : Result := rotateR8 .rr .hlInd s P

/-- RR A (CB 1F, R1016). -/
def exec_rr_A (s : State) (P : Params := Params.default) : Result := rotateR8 .rr .a s P

/-- SLA B (CB 20, R1018). -/
def exec_sla_B (s : State) (P : Params := Params.default) : Result := rotateR8 .sla .b s P

/-- SLA C (CB 21, R1018). -/
def exec_sla_C (s : State) (P : Params := Params.default) : Result := rotateR8 .sla .c s P

/-- SLA D (CB 22, R1018). -/
def exec_sla_D (s : State) (P : Params := Params.default) : Result := rotateR8 .sla .d s P

/-- SLA E (CB 23, R1018). -/
def exec_sla_E (s : State) (P : Params := Params.default) : Result := rotateR8 .sla .e s P

/-- SLA H (CB 24, R1018). -/
def exec_sla_H (s : State) (P : Params := Params.default) : Result := rotateR8 .sla .h s P

/-- SLA L (CB 25, R1018). -/
def exec_sla_L (s : State) (P : Params := Params.default) : Result := rotateR8 .sla .l s P

/-- SLA (HL) (CB 26, R1019). -/
def exec_sla_atHL (s : State) (P : Params := Params.default) : Result := rotateR8 .sla .hlInd s P

/-- SLA A (CB 27, R1018). -/
def exec_sla_A (s : State) (P : Params := Params.default) : Result := rotateR8 .sla .a s P

/-- SRA B (CB 28, R1020). -/
def exec_sra_B (s : State) (P : Params := Params.default) : Result := rotateR8 .sra .b s P

/-- SRA C (CB 29, R1020). -/
def exec_sra_C (s : State) (P : Params := Params.default) : Result := rotateR8 .sra .c s P

/-- SRA D (CB 2A, R1020). -/
def exec_sra_D (s : State) (P : Params := Params.default) : Result := rotateR8 .sra .d s P

/-- SRA E (CB 2B, R1020). -/
def exec_sra_E (s : State) (P : Params := Params.default) : Result := rotateR8 .sra .e s P

/-- SRA H (CB 2C, R1020). -/
def exec_sra_H (s : State) (P : Params := Params.default) : Result := rotateR8 .sra .h s P

/-- SRA L (CB 2D, R1020). -/
def exec_sra_L (s : State) (P : Params := Params.default) : Result := rotateR8 .sra .l s P

/-- SRA (HL) (CB 2E, R1021). -/
def exec_sra_atHL (s : State) (P : Params := Params.default) : Result := rotateR8 .sra .hlInd s P

/-- SRA A (CB 2F, R1020). -/
def exec_sra_A (s : State) (P : Params := Params.default) : Result := rotateR8 .sra .a s P

/-- SWAP B (CB 30, R1022). -/
def exec_swap_B (s : State) (P : Params := Params.default) : Result := rotateR8 .swap .b s P

/-- SWAP C (CB 31, R1022). -/
def exec_swap_C (s : State) (P : Params := Params.default) : Result := rotateR8 .swap .c s P

/-- SWAP D (CB 32, R1022). -/
def exec_swap_D (s : State) (P : Params := Params.default) : Result := rotateR8 .swap .d s P

/-- SWAP E (CB 33, R1022). -/
def exec_swap_E (s : State) (P : Params := Params.default) : Result := rotateR8 .swap .e s P

/-- SWAP H (CB 34, R1022). -/
def exec_swap_H (s : State) (P : Params := Params.default) : Result := rotateR8 .swap .h s P

/-- SWAP L (CB 35, R1022). -/
def exec_swap_L (s : State) (P : Params := Params.default) : Result := rotateR8 .swap .l s P

/-- SWAP (HL) (CB 36, R1023). -/
def exec_swap_atHL (s : State) (P : Params := Params.default) : Result := rotateR8 .swap .hlInd s P

/-- SWAP A (CB 37, R1022). -/
def exec_swap_A (s : State) (P : Params := Params.default) : Result := rotateR8 .swap .a s P

/-- SRL B (CB 38, R1024). -/
def exec_srl_B (s : State) (P : Params := Params.default) : Result := rotateR8 .srl .b s P

/-- SRL C (CB 39, R1024). -/
def exec_srl_C (s : State) (P : Params := Params.default) : Result := rotateR8 .srl .c s P

/-- SRL D (CB 3A, R1024). -/
def exec_srl_D (s : State) (P : Params := Params.default) : Result := rotateR8 .srl .d s P

/-- SRL E (CB 3B, R1024). -/
def exec_srl_E (s : State) (P : Params := Params.default) : Result := rotateR8 .srl .e s P

/-- SRL H (CB 3C, R1024). -/
def exec_srl_H (s : State) (P : Params := Params.default) : Result := rotateR8 .srl .h s P

/-- SRL L (CB 3D, R1024). -/
def exec_srl_L (s : State) (P : Params := Params.default) : Result := rotateR8 .srl .l s P

/-- SRL (HL) (CB 3E, R1025). -/
def exec_srl_atHL (s : State) (P : Params := Params.default) : Result := rotateR8 .srl .hlInd s P

/-- SRL A (CB 3F, R1024). -/
def exec_srl_A (s : State) (P : Params := Params.default) : Result := rotateR8 .srl .a s P

/-- BIT 0,B (CB 40, R1030). -/
def exec_bit_0_B (s : State) (P : Params := Params.default) : Result := testBitR8 0 .b s P

/-- BIT 0,C (CB 41, R1030). -/
def exec_bit_0_C (s : State) (P : Params := Params.default) : Result := testBitR8 0 .c s P

/-- BIT 0,D (CB 42, R1030). -/
def exec_bit_0_D (s : State) (P : Params := Params.default) : Result := testBitR8 0 .d s P

/-- BIT 0,E (CB 43, R1030). -/
def exec_bit_0_E (s : State) (P : Params := Params.default) : Result := testBitR8 0 .e s P

/-- BIT 0,H (CB 44, R1030). -/
def exec_bit_0_H (s : State) (P : Params := Params.default) : Result := testBitR8 0 .h s P

/-- BIT 0,L (CB 45, R1030). -/
def exec_bit_0_L (s : State) (P : Params := Params.default) : Result := testBitR8 0 .l s P

/-- BIT 0,(HL) (CB 46, R1031). -/
def exec_bit_0_atHL (s : State) (P : Params := Params.default) : Result := testBitR8 0 .hlInd s P

/-- BIT 0,A (CB 47, R1030). -/
def exec_bit_0_A (s : State) (P : Params := Params.default) : Result := testBitR8 0 .a s P

/-- BIT 1,B (CB 48, R1030). -/
def exec_bit_1_B (s : State) (P : Params := Params.default) : Result := testBitR8 1 .b s P

/-- BIT 1,C (CB 49, R1030). -/
def exec_bit_1_C (s : State) (P : Params := Params.default) : Result := testBitR8 1 .c s P

/-- BIT 1,D (CB 4A, R1030). -/
def exec_bit_1_D (s : State) (P : Params := Params.default) : Result := testBitR8 1 .d s P

/-- BIT 1,E (CB 4B, R1030). -/
def exec_bit_1_E (s : State) (P : Params := Params.default) : Result := testBitR8 1 .e s P

/-- BIT 1,H (CB 4C, R1030). -/
def exec_bit_1_H (s : State) (P : Params := Params.default) : Result := testBitR8 1 .h s P

/-- BIT 1,L (CB 4D, R1030). -/
def exec_bit_1_L (s : State) (P : Params := Params.default) : Result := testBitR8 1 .l s P

/-- BIT 1,(HL) (CB 4E, R1031). -/
def exec_bit_1_atHL (s : State) (P : Params := Params.default) : Result := testBitR8 1 .hlInd s P

/-- BIT 1,A (CB 4F, R1030). -/
def exec_bit_1_A (s : State) (P : Params := Params.default) : Result := testBitR8 1 .a s P

/-- BIT 2,B (CB 50, R1030). -/
def exec_bit_2_B (s : State) (P : Params := Params.default) : Result := testBitR8 2 .b s P

/-- BIT 2,C (CB 51, R1030). -/
def exec_bit_2_C (s : State) (P : Params := Params.default) : Result := testBitR8 2 .c s P

/-- BIT 2,D (CB 52, R1030). -/
def exec_bit_2_D (s : State) (P : Params := Params.default) : Result := testBitR8 2 .d s P

/-- BIT 2,E (CB 53, R1030). -/
def exec_bit_2_E (s : State) (P : Params := Params.default) : Result := testBitR8 2 .e s P

/-- BIT 2,H (CB 54, R1030). -/
def exec_bit_2_H (s : State) (P : Params := Params.default) : Result := testBitR8 2 .h s P

/-- BIT 2,L (CB 55, R1030). -/
def exec_bit_2_L (s : State) (P : Params := Params.default) : Result := testBitR8 2 .l s P

/-- BIT 2,(HL) (CB 56, R1031). -/
def exec_bit_2_atHL (s : State) (P : Params := Params.default) : Result := testBitR8 2 .hlInd s P

/-- BIT 2,A (CB 57, R1030). -/
def exec_bit_2_A (s : State) (P : Params := Params.default) : Result := testBitR8 2 .a s P

/-- BIT 3,B (CB 58, R1030). -/
def exec_bit_3_B (s : State) (P : Params := Params.default) : Result := testBitR8 3 .b s P

/-- BIT 3,C (CB 59, R1030). -/
def exec_bit_3_C (s : State) (P : Params := Params.default) : Result := testBitR8 3 .c s P

/-- BIT 3,D (CB 5A, R1030). -/
def exec_bit_3_D (s : State) (P : Params := Params.default) : Result := testBitR8 3 .d s P

/-- BIT 3,E (CB 5B, R1030). -/
def exec_bit_3_E (s : State) (P : Params := Params.default) : Result := testBitR8 3 .e s P

/-- BIT 3,H (CB 5C, R1030). -/
def exec_bit_3_H (s : State) (P : Params := Params.default) : Result := testBitR8 3 .h s P

/-- BIT 3,L (CB 5D, R1030). -/
def exec_bit_3_L (s : State) (P : Params := Params.default) : Result := testBitR8 3 .l s P

/-- BIT 3,(HL) (CB 5E, R1031). -/
def exec_bit_3_atHL (s : State) (P : Params := Params.default) : Result := testBitR8 3 .hlInd s P

/-- BIT 3,A (CB 5F, R1030). -/
def exec_bit_3_A (s : State) (P : Params := Params.default) : Result := testBitR8 3 .a s P

/-- BIT 4,B (CB 60, R1030). -/
def exec_bit_4_B (s : State) (P : Params := Params.default) : Result := testBitR8 4 .b s P

/-- BIT 4,C (CB 61, R1030). -/
def exec_bit_4_C (s : State) (P : Params := Params.default) : Result := testBitR8 4 .c s P

/-- BIT 4,D (CB 62, R1030). -/
def exec_bit_4_D (s : State) (P : Params := Params.default) : Result := testBitR8 4 .d s P

/-- BIT 4,E (CB 63, R1030). -/
def exec_bit_4_E (s : State) (P : Params := Params.default) : Result := testBitR8 4 .e s P

/-- BIT 4,H (CB 64, R1030). -/
def exec_bit_4_H (s : State) (P : Params := Params.default) : Result := testBitR8 4 .h s P

/-- BIT 4,L (CB 65, R1030). -/
def exec_bit_4_L (s : State) (P : Params := Params.default) : Result := testBitR8 4 .l s P

/-- BIT 4,(HL) (CB 66, R1031). -/
def exec_bit_4_atHL (s : State) (P : Params := Params.default) : Result := testBitR8 4 .hlInd s P

/-- BIT 4,A (CB 67, R1030). -/
def exec_bit_4_A (s : State) (P : Params := Params.default) : Result := testBitR8 4 .a s P

/-- BIT 5,B (CB 68, R1030). -/
def exec_bit_5_B (s : State) (P : Params := Params.default) : Result := testBitR8 5 .b s P

/-- BIT 5,C (CB 69, R1030). -/
def exec_bit_5_C (s : State) (P : Params := Params.default) : Result := testBitR8 5 .c s P

/-- BIT 5,D (CB 6A, R1030). -/
def exec_bit_5_D (s : State) (P : Params := Params.default) : Result := testBitR8 5 .d s P

/-- BIT 5,E (CB 6B, R1030). -/
def exec_bit_5_E (s : State) (P : Params := Params.default) : Result := testBitR8 5 .e s P

/-- BIT 5,H (CB 6C, R1030). -/
def exec_bit_5_H (s : State) (P : Params := Params.default) : Result := testBitR8 5 .h s P

/-- BIT 5,L (CB 6D, R1030). -/
def exec_bit_5_L (s : State) (P : Params := Params.default) : Result := testBitR8 5 .l s P

/-- BIT 5,(HL) (CB 6E, R1031). -/
def exec_bit_5_atHL (s : State) (P : Params := Params.default) : Result := testBitR8 5 .hlInd s P

/-- BIT 5,A (CB 6F, R1030). -/
def exec_bit_5_A (s : State) (P : Params := Params.default) : Result := testBitR8 5 .a s P

/-- BIT 6,B (CB 70, R1030). -/
def exec_bit_6_B (s : State) (P : Params := Params.default) : Result := testBitR8 6 .b s P

/-- BIT 6,C (CB 71, R1030). -/
def exec_bit_6_C (s : State) (P : Params := Params.default) : Result := testBitR8 6 .c s P

/-- BIT 6,D (CB 72, R1030). -/
def exec_bit_6_D (s : State) (P : Params := Params.default) : Result := testBitR8 6 .d s P

/-- BIT 6,E (CB 73, R1030). -/
def exec_bit_6_E (s : State) (P : Params := Params.default) : Result := testBitR8 6 .e s P

/-- BIT 6,H (CB 74, R1030). -/
def exec_bit_6_H (s : State) (P : Params := Params.default) : Result := testBitR8 6 .h s P

/-- BIT 6,L (CB 75, R1030). -/
def exec_bit_6_L (s : State) (P : Params := Params.default) : Result := testBitR8 6 .l s P

/-- BIT 6,(HL) (CB 76, R1031). -/
def exec_bit_6_atHL (s : State) (P : Params := Params.default) : Result := testBitR8 6 .hlInd s P

/-- BIT 6,A (CB 77, R1030). -/
def exec_bit_6_A (s : State) (P : Params := Params.default) : Result := testBitR8 6 .a s P

/-- BIT 7,B (CB 78, R1030). -/
def exec_bit_7_B (s : State) (P : Params := Params.default) : Result := testBitR8 7 .b s P

/-- BIT 7,C (CB 79, R1030). -/
def exec_bit_7_C (s : State) (P : Params := Params.default) : Result := testBitR8 7 .c s P

/-- BIT 7,D (CB 7A, R1030). -/
def exec_bit_7_D (s : State) (P : Params := Params.default) : Result := testBitR8 7 .d s P

/-- BIT 7,E (CB 7B, R1030). -/
def exec_bit_7_E (s : State) (P : Params := Params.default) : Result := testBitR8 7 .e s P

/-- BIT 7,H (CB 7C, R1030). -/
def exec_bit_7_H (s : State) (P : Params := Params.default) : Result := testBitR8 7 .h s P

/-- BIT 7,L (CB 7D, R1030). -/
def exec_bit_7_L (s : State) (P : Params := Params.default) : Result := testBitR8 7 .l s P

/-- BIT 7,(HL) (CB 7E, R1031). -/
def exec_bit_7_atHL (s : State) (P : Params := Params.default) : Result := testBitR8 7 .hlInd s P

/-- BIT 7,A (CB 7F, R1030). -/
def exec_bit_7_A (s : State) (P : Params := Params.default) : Result := testBitR8 7 .a s P

/-- RES 0,B (CB 80, R1032). -/
def exec_res_0_B (s : State) (P : Params := Params.default) : Result := resetBitR8 0 .b s P

/-- RES 0,C (CB 81, R1032). -/
def exec_res_0_C (s : State) (P : Params := Params.default) : Result := resetBitR8 0 .c s P

/-- RES 0,D (CB 82, R1032). -/
def exec_res_0_D (s : State) (P : Params := Params.default) : Result := resetBitR8 0 .d s P

/-- RES 0,E (CB 83, R1032). -/
def exec_res_0_E (s : State) (P : Params := Params.default) : Result := resetBitR8 0 .e s P

/-- RES 0,H (CB 84, R1032). -/
def exec_res_0_H (s : State) (P : Params := Params.default) : Result := resetBitR8 0 .h s P

/-- RES 0,L (CB 85, R1032). -/
def exec_res_0_L (s : State) (P : Params := Params.default) : Result := resetBitR8 0 .l s P

/-- RES 0,(HL) (CB 86, R1033). -/
def exec_res_0_atHL (s : State) (P : Params := Params.default) : Result := resetBitR8 0 .hlInd s P

/-- RES 0,A (CB 87, R1032). -/
def exec_res_0_A (s : State) (P : Params := Params.default) : Result := resetBitR8 0 .a s P

/-- RES 1,B (CB 88, R1032). -/
def exec_res_1_B (s : State) (P : Params := Params.default) : Result := resetBitR8 1 .b s P

/-- RES 1,C (CB 89, R1032). -/
def exec_res_1_C (s : State) (P : Params := Params.default) : Result := resetBitR8 1 .c s P

/-- RES 1,D (CB 8A, R1032). -/
def exec_res_1_D (s : State) (P : Params := Params.default) : Result := resetBitR8 1 .d s P

/-- RES 1,E (CB 8B, R1032). -/
def exec_res_1_E (s : State) (P : Params := Params.default) : Result := resetBitR8 1 .e s P

/-- RES 1,H (CB 8C, R1032). -/
def exec_res_1_H (s : State) (P : Params := Params.default) : Result := resetBitR8 1 .h s P

/-- RES 1,L (CB 8D, R1032). -/
def exec_res_1_L (s : State) (P : Params := Params.default) : Result := resetBitR8 1 .l s P

/-- RES 1,(HL) (CB 8E, R1033). -/
def exec_res_1_atHL (s : State) (P : Params := Params.default) : Result := resetBitR8 1 .hlInd s P

/-- RES 1,A (CB 8F, R1032). -/
def exec_res_1_A (s : State) (P : Params := Params.default) : Result := resetBitR8 1 .a s P

/-- RES 2,B (CB 90, R1032). -/
def exec_res_2_B (s : State) (P : Params := Params.default) : Result := resetBitR8 2 .b s P

/-- RES 2,C (CB 91, R1032). -/
def exec_res_2_C (s : State) (P : Params := Params.default) : Result := resetBitR8 2 .c s P

/-- RES 2,D (CB 92, R1032). -/
def exec_res_2_D (s : State) (P : Params := Params.default) : Result := resetBitR8 2 .d s P

/-- RES 2,E (CB 93, R1032). -/
def exec_res_2_E (s : State) (P : Params := Params.default) : Result := resetBitR8 2 .e s P

/-- RES 2,H (CB 94, R1032). -/
def exec_res_2_H (s : State) (P : Params := Params.default) : Result := resetBitR8 2 .h s P

/-- RES 2,L (CB 95, R1032). -/
def exec_res_2_L (s : State) (P : Params := Params.default) : Result := resetBitR8 2 .l s P

/-- RES 2,(HL) (CB 96, R1033). -/
def exec_res_2_atHL (s : State) (P : Params := Params.default) : Result := resetBitR8 2 .hlInd s P

/-- RES 2,A (CB 97, R1032). -/
def exec_res_2_A (s : State) (P : Params := Params.default) : Result := resetBitR8 2 .a s P

/-- RES 3,B (CB 98, R1032). -/
def exec_res_3_B (s : State) (P : Params := Params.default) : Result := resetBitR8 3 .b s P

/-- RES 3,C (CB 99, R1032). -/
def exec_res_3_C (s : State) (P : Params := Params.default) : Result := resetBitR8 3 .c s P

/-- RES 3,D (CB 9A, R1032). -/
def exec_res_3_D (s : State) (P : Params := Params.default) : Result := resetBitR8 3 .d s P

/-- RES 3,E (CB 9B, R1032). -/
def exec_res_3_E (s : State) (P : Params := Params.default) : Result := resetBitR8 3 .e s P

/-- RES 3,H (CB 9C, R1032). -/
def exec_res_3_H (s : State) (P : Params := Params.default) : Result := resetBitR8 3 .h s P

/-- RES 3,L (CB 9D, R1032). -/
def exec_res_3_L (s : State) (P : Params := Params.default) : Result := resetBitR8 3 .l s P

/-- RES 3,(HL) (CB 9E, R1033). -/
def exec_res_3_atHL (s : State) (P : Params := Params.default) : Result := resetBitR8 3 .hlInd s P

/-- RES 3,A (CB 9F, R1032). -/
def exec_res_3_A (s : State) (P : Params := Params.default) : Result := resetBitR8 3 .a s P

/-- RES 4,B (CB A0, R1032). -/
def exec_res_4_B (s : State) (P : Params := Params.default) : Result := resetBitR8 4 .b s P

/-- RES 4,C (CB A1, R1032). -/
def exec_res_4_C (s : State) (P : Params := Params.default) : Result := resetBitR8 4 .c s P

/-- RES 4,D (CB A2, R1032). -/
def exec_res_4_D (s : State) (P : Params := Params.default) : Result := resetBitR8 4 .d s P

/-- RES 4,E (CB A3, R1032). -/
def exec_res_4_E (s : State) (P : Params := Params.default) : Result := resetBitR8 4 .e s P

/-- RES 4,H (CB A4, R1032). -/
def exec_res_4_H (s : State) (P : Params := Params.default) : Result := resetBitR8 4 .h s P

/-- RES 4,L (CB A5, R1032). -/
def exec_res_4_L (s : State) (P : Params := Params.default) : Result := resetBitR8 4 .l s P

/-- RES 4,(HL) (CB A6, R1033). -/
def exec_res_4_atHL (s : State) (P : Params := Params.default) : Result := resetBitR8 4 .hlInd s P

/-- RES 4,A (CB A7, R1032). -/
def exec_res_4_A (s : State) (P : Params := Params.default) : Result := resetBitR8 4 .a s P

/-- RES 5,B (CB A8, R1032). -/
def exec_res_5_B (s : State) (P : Params := Params.default) : Result := resetBitR8 5 .b s P

/-- RES 5,C (CB A9, R1032). -/
def exec_res_5_C (s : State) (P : Params := Params.default) : Result := resetBitR8 5 .c s P

/-- RES 5,D (CB AA, R1032). -/
def exec_res_5_D (s : State) (P : Params := Params.default) : Result := resetBitR8 5 .d s P

/-- RES 5,E (CB AB, R1032). -/
def exec_res_5_E (s : State) (P : Params := Params.default) : Result := resetBitR8 5 .e s P

/-- RES 5,H (CB AC, R1032). -/
def exec_res_5_H (s : State) (P : Params := Params.default) : Result := resetBitR8 5 .h s P

/-- RES 5,L (CB AD, R1032). -/
def exec_res_5_L (s : State) (P : Params := Params.default) : Result := resetBitR8 5 .l s P

/-- RES 5,(HL) (CB AE, R1033). -/
def exec_res_5_atHL (s : State) (P : Params := Params.default) : Result := resetBitR8 5 .hlInd s P

/-- RES 5,A (CB AF, R1032). -/
def exec_res_5_A (s : State) (P : Params := Params.default) : Result := resetBitR8 5 .a s P

/-- RES 6,B (CB B0, R1032). -/
def exec_res_6_B (s : State) (P : Params := Params.default) : Result := resetBitR8 6 .b s P

/-- RES 6,C (CB B1, R1032). -/
def exec_res_6_C (s : State) (P : Params := Params.default) : Result := resetBitR8 6 .c s P

/-- RES 6,D (CB B2, R1032). -/
def exec_res_6_D (s : State) (P : Params := Params.default) : Result := resetBitR8 6 .d s P

/-- RES 6,E (CB B3, R1032). -/
def exec_res_6_E (s : State) (P : Params := Params.default) : Result := resetBitR8 6 .e s P

/-- RES 6,H (CB B4, R1032). -/
def exec_res_6_H (s : State) (P : Params := Params.default) : Result := resetBitR8 6 .h s P

/-- RES 6,L (CB B5, R1032). -/
def exec_res_6_L (s : State) (P : Params := Params.default) : Result := resetBitR8 6 .l s P

/-- RES 6,(HL) (CB B6, R1033). -/
def exec_res_6_atHL (s : State) (P : Params := Params.default) : Result := resetBitR8 6 .hlInd s P

/-- RES 6,A (CB B7, R1032). -/
def exec_res_6_A (s : State) (P : Params := Params.default) : Result := resetBitR8 6 .a s P

/-- RES 7,B (CB B8, R1032). -/
def exec_res_7_B (s : State) (P : Params := Params.default) : Result := resetBitR8 7 .b s P

/-- RES 7,C (CB B9, R1032). -/
def exec_res_7_C (s : State) (P : Params := Params.default) : Result := resetBitR8 7 .c s P

/-- RES 7,D (CB BA, R1032). -/
def exec_res_7_D (s : State) (P : Params := Params.default) : Result := resetBitR8 7 .d s P

/-- RES 7,E (CB BB, R1032). -/
def exec_res_7_E (s : State) (P : Params := Params.default) : Result := resetBitR8 7 .e s P

/-- RES 7,H (CB BC, R1032). -/
def exec_res_7_H (s : State) (P : Params := Params.default) : Result := resetBitR8 7 .h s P

/-- RES 7,L (CB BD, R1032). -/
def exec_res_7_L (s : State) (P : Params := Params.default) : Result := resetBitR8 7 .l s P

/-- RES 7,(HL) (CB BE, R1033). -/
def exec_res_7_atHL (s : State) (P : Params := Params.default) : Result := resetBitR8 7 .hlInd s P

/-- RES 7,A (CB BF, R1032). -/
def exec_res_7_A (s : State) (P : Params := Params.default) : Result := resetBitR8 7 .a s P

/-- SET 0,B (CB C0, R1034). -/
def exec_set_0_B (s : State) (P : Params := Params.default) : Result := setBitR8 0 .b s P

/-- SET 0,C (CB C1, R1034). -/
def exec_set_0_C (s : State) (P : Params := Params.default) : Result := setBitR8 0 .c s P

/-- SET 0,D (CB C2, R1034). -/
def exec_set_0_D (s : State) (P : Params := Params.default) : Result := setBitR8 0 .d s P

/-- SET 0,E (CB C3, R1034). -/
def exec_set_0_E (s : State) (P : Params := Params.default) : Result := setBitR8 0 .e s P

/-- SET 0,H (CB C4, R1034). -/
def exec_set_0_H (s : State) (P : Params := Params.default) : Result := setBitR8 0 .h s P

/-- SET 0,L (CB C5, R1034). -/
def exec_set_0_L (s : State) (P : Params := Params.default) : Result := setBitR8 0 .l s P

/-- SET 0,(HL) (CB C6, R1035). -/
def exec_set_0_atHL (s : State) (P : Params := Params.default) : Result := setBitR8 0 .hlInd s P

/-- SET 0,A (CB C7, R1034). -/
def exec_set_0_A (s : State) (P : Params := Params.default) : Result := setBitR8 0 .a s P

/-- SET 1,B (CB C8, R1034). -/
def exec_set_1_B (s : State) (P : Params := Params.default) : Result := setBitR8 1 .b s P

/-- SET 1,C (CB C9, R1034). -/
def exec_set_1_C (s : State) (P : Params := Params.default) : Result := setBitR8 1 .c s P

/-- SET 1,D (CB CA, R1034). -/
def exec_set_1_D (s : State) (P : Params := Params.default) : Result := setBitR8 1 .d s P

/-- SET 1,E (CB CB, R1034). -/
def exec_set_1_E (s : State) (P : Params := Params.default) : Result := setBitR8 1 .e s P

/-- SET 1,H (CB CC, R1034). -/
def exec_set_1_H (s : State) (P : Params := Params.default) : Result := setBitR8 1 .h s P

/-- SET 1,L (CB CD, R1034). -/
def exec_set_1_L (s : State) (P : Params := Params.default) : Result := setBitR8 1 .l s P

/-- SET 1,(HL) (CB CE, R1035). -/
def exec_set_1_atHL (s : State) (P : Params := Params.default) : Result := setBitR8 1 .hlInd s P

/-- SET 1,A (CB CF, R1034). -/
def exec_set_1_A (s : State) (P : Params := Params.default) : Result := setBitR8 1 .a s P

/-- SET 2,B (CB D0, R1034). -/
def exec_set_2_B (s : State) (P : Params := Params.default) : Result := setBitR8 2 .b s P

/-- SET 2,C (CB D1, R1034). -/
def exec_set_2_C (s : State) (P : Params := Params.default) : Result := setBitR8 2 .c s P

/-- SET 2,D (CB D2, R1034). -/
def exec_set_2_D (s : State) (P : Params := Params.default) : Result := setBitR8 2 .d s P

/-- SET 2,E (CB D3, R1034). -/
def exec_set_2_E (s : State) (P : Params := Params.default) : Result := setBitR8 2 .e s P

/-- SET 2,H (CB D4, R1034). -/
def exec_set_2_H (s : State) (P : Params := Params.default) : Result := setBitR8 2 .h s P

/-- SET 2,L (CB D5, R1034). -/
def exec_set_2_L (s : State) (P : Params := Params.default) : Result := setBitR8 2 .l s P

/-- SET 2,(HL) (CB D6, R1035). -/
def exec_set_2_atHL (s : State) (P : Params := Params.default) : Result := setBitR8 2 .hlInd s P

/-- SET 2,A (CB D7, R1034). -/
def exec_set_2_A (s : State) (P : Params := Params.default) : Result := setBitR8 2 .a s P

/-- SET 3,B (CB D8, R1034). -/
def exec_set_3_B (s : State) (P : Params := Params.default) : Result := setBitR8 3 .b s P

/-- SET 3,C (CB D9, R1034). -/
def exec_set_3_C (s : State) (P : Params := Params.default) : Result := setBitR8 3 .c s P

/-- SET 3,D (CB DA, R1034). -/
def exec_set_3_D (s : State) (P : Params := Params.default) : Result := setBitR8 3 .d s P

/-- SET 3,E (CB DB, R1034). -/
def exec_set_3_E (s : State) (P : Params := Params.default) : Result := setBitR8 3 .e s P

/-- SET 3,H (CB DC, R1034). -/
def exec_set_3_H (s : State) (P : Params := Params.default) : Result := setBitR8 3 .h s P

/-- SET 3,L (CB DD, R1034). -/
def exec_set_3_L (s : State) (P : Params := Params.default) : Result := setBitR8 3 .l s P

/-- SET 3,(HL) (CB DE, R1035). -/
def exec_set_3_atHL (s : State) (P : Params := Params.default) : Result := setBitR8 3 .hlInd s P

/-- SET 3,A (CB DF, R1034). -/
def exec_set_3_A (s : State) (P : Params := Params.default) : Result := setBitR8 3 .a s P

/-- SET 4,B (CB E0, R1034). -/
def exec_set_4_B (s : State) (P : Params := Params.default) : Result := setBitR8 4 .b s P

/-- SET 4,C (CB E1, R1034). -/
def exec_set_4_C (s : State) (P : Params := Params.default) : Result := setBitR8 4 .c s P

/-- SET 4,D (CB E2, R1034). -/
def exec_set_4_D (s : State) (P : Params := Params.default) : Result := setBitR8 4 .d s P

/-- SET 4,E (CB E3, R1034). -/
def exec_set_4_E (s : State) (P : Params := Params.default) : Result := setBitR8 4 .e s P

/-- SET 4,H (CB E4, R1034). -/
def exec_set_4_H (s : State) (P : Params := Params.default) : Result := setBitR8 4 .h s P

/-- SET 4,L (CB E5, R1034). -/
def exec_set_4_L (s : State) (P : Params := Params.default) : Result := setBitR8 4 .l s P

/-- SET 4,(HL) (CB E6, R1035). -/
def exec_set_4_atHL (s : State) (P : Params := Params.default) : Result := setBitR8 4 .hlInd s P

/-- SET 4,A (CB E7, R1034). -/
def exec_set_4_A (s : State) (P : Params := Params.default) : Result := setBitR8 4 .a s P

/-- SET 5,B (CB E8, R1034). -/
def exec_set_5_B (s : State) (P : Params := Params.default) : Result := setBitR8 5 .b s P

/-- SET 5,C (CB E9, R1034). -/
def exec_set_5_C (s : State) (P : Params := Params.default) : Result := setBitR8 5 .c s P

/-- SET 5,D (CB EA, R1034). -/
def exec_set_5_D (s : State) (P : Params := Params.default) : Result := setBitR8 5 .d s P

/-- SET 5,E (CB EB, R1034). -/
def exec_set_5_E (s : State) (P : Params := Params.default) : Result := setBitR8 5 .e s P

/-- SET 5,H (CB EC, R1034). -/
def exec_set_5_H (s : State) (P : Params := Params.default) : Result := setBitR8 5 .h s P

/-- SET 5,L (CB ED, R1034). -/
def exec_set_5_L (s : State) (P : Params := Params.default) : Result := setBitR8 5 .l s P

/-- SET 5,(HL) (CB EE, R1035). -/
def exec_set_5_atHL (s : State) (P : Params := Params.default) : Result := setBitR8 5 .hlInd s P

/-- SET 5,A (CB EF, R1034). -/
def exec_set_5_A (s : State) (P : Params := Params.default) : Result := setBitR8 5 .a s P

/-- SET 6,B (CB F0, R1034). -/
def exec_set_6_B (s : State) (P : Params := Params.default) : Result := setBitR8 6 .b s P

/-- SET 6,C (CB F1, R1034). -/
def exec_set_6_C (s : State) (P : Params := Params.default) : Result := setBitR8 6 .c s P

/-- SET 6,D (CB F2, R1034). -/
def exec_set_6_D (s : State) (P : Params := Params.default) : Result := setBitR8 6 .d s P

/-- SET 6,E (CB F3, R1034). -/
def exec_set_6_E (s : State) (P : Params := Params.default) : Result := setBitR8 6 .e s P

/-- SET 6,H (CB F4, R1034). -/
def exec_set_6_H (s : State) (P : Params := Params.default) : Result := setBitR8 6 .h s P

/-- SET 6,L (CB F5, R1034). -/
def exec_set_6_L (s : State) (P : Params := Params.default) : Result := setBitR8 6 .l s P

/-- SET 6,(HL) (CB F6, R1035). -/
def exec_set_6_atHL (s : State) (P : Params := Params.default) : Result := setBitR8 6 .hlInd s P

/-- SET 6,A (CB F7, R1034). -/
def exec_set_6_A (s : State) (P : Params := Params.default) : Result := setBitR8 6 .a s P

/-- SET 7,B (CB F8, R1034). -/
def exec_set_7_B (s : State) (P : Params := Params.default) : Result := setBitR8 7 .b s P

/-- SET 7,C (CB F9, R1034). -/
def exec_set_7_C (s : State) (P : Params := Params.default) : Result := setBitR8 7 .c s P

/-- SET 7,D (CB FA, R1034). -/
def exec_set_7_D (s : State) (P : Params := Params.default) : Result := setBitR8 7 .d s P

/-- SET 7,E (CB FB, R1034). -/
def exec_set_7_E (s : State) (P : Params := Params.default) : Result := setBitR8 7 .e s P

/-- SET 7,H (CB FC, R1034). -/
def exec_set_7_H (s : State) (P : Params := Params.default) : Result := setBitR8 7 .h s P

/-- SET 7,L (CB FD, R1034). -/
def exec_set_7_L (s : State) (P : Params := Params.default) : Result := setBitR8 7 .l s P

/-- SET 7,(HL) (CB FE, R1035). -/
def exec_set_7_atHL (s : State) (P : Params := Params.default) : Result := setBitR8 7 .hlInd s P

/-- SET 7,A (CB FF, R1034). -/
def exec_set_7_A (s : State) (P : Params := Params.default) : Result := setBitR8 7 .a s P

end Sys2Proof.Machine
end

