-- ==== Sys2Proof/Machine/System.lean ====
section
/-! DEFINITION. System and control instructions (47_system.md): NOP, HALT, STOP, DI, EI. -/

namespace Sys2Proof.Machine

/-- NOP (00, R1100). -/
def exec_nop (s : State) (_P : Params := Params.default) : Result := .next (s.advance 1)

/-- STOP (10, R1120). Its second byte is read and ignored (D24). -/
def exec_stop (s : State) (P : Params := Params.default) : Result :=
  let n := s.readImm8 P
  .next ((n.2.setMode .stopped).advance 2)

/-- HALT (76, R1110). With ime_pending set and an interrupt pending next pc is the HALT's own address; with IME and ime_pending
clear and an interrupt pending the HALT bug is set instead of halting. -/
def exec_halt (s : State) (_P : Params := Params.default) : Result :=
  if s.ime then .next ((s.setMode .halted).advance 1)
  else if s.imePending then
    if s.irqPending then .next s else .next ((s.setMode .halted).advance 1)
  else if s.irqPending then .next ((s.setHaltBug true).advance 1)
  else .next ((s.setMode .halted).advance 1)

/-- DI (F3, R1130): at once. -/
def exec_di (s : State) (_P : Params := Params.default) : Result := .next (((s.setIme false).setImePending false).advance 1)

/-- EI (FB, R1140): IME follows at the end of the next step (R415). -/
def exec_ei (s : State) (_P : Params := Params.default) : Result := .next ((s.setImePending true).advance 1)

end Sys2Proof.Machine
end

