-- ==== Sys2Proof/Machine/ExecOn.lean ====
section
/-! DEFINITION. `execute_at` (R400, R401) over any parameters (R6): `exec` of Machine/Dispatch.lean is this at their defaults
(`execOn_default`, Laws/Exec.lean). One arm per instruction, each the call of the same meaning. -/

namespace Sys2Proof.Machine

/-- The instruction's meaning over the parameters P. -/
def execOn (P : Params) (i : Instr) (s : State) : Result :=
  match i with
  | .nop => exec_nop s P
  | .ld_BC_d16 => exec_ld_BC_d16 s P
  | .ld_atBC_A => exec_ld_atBC_A s P
  | .inc_BC => exec_inc_BC s P
  | .inc_B => exec_inc_B s P
  | .dec_B => exec_dec_B s P
  | .ld_B_d8 => exec_ld_B_d8 s P
  | .rlca => exec_rlca s P
  | .ld_atA16_SP => exec_ld_atA16_SP s P
  | .add_HL_BC => exec_add_HL_BC s P
  | .ld_A_atBC => exec_ld_A_atBC s P
  | .dec_BC => exec_dec_BC s P
  | .inc_C => exec_inc_C s P
  | .dec_C => exec_dec_C s P
  | .ld_C_d8 => exec_ld_C_d8 s P
  | .rrca => exec_rrca s P
  | .stop => exec_stop s P
  | .ld_DE_d16 => exec_ld_DE_d16 s P
  | .ld_atDE_A => exec_ld_atDE_A s P
  | .inc_DE => exec_inc_DE s P
  | .inc_D => exec_inc_D s P
  | .dec_D => exec_dec_D s P
  | .ld_D_d8 => exec_ld_D_d8 s P
  | .rla => exec_rla s P
  | .jr_e8 => exec_jr_e8 s P
  | .add_HL_DE => exec_add_HL_DE s P
  | .ld_A_atDE => exec_ld_A_atDE s P
  | .dec_DE => exec_dec_DE s P
  | .inc_E => exec_inc_E s P
  | .dec_E => exec_dec_E s P
  | .ld_E_d8 => exec_ld_E_d8 s P
  | .rra => exec_rra s P
  | .jr_NZ_e8 => exec_jr_NZ_e8 s P
  | .ld_HL_d16 => exec_ld_HL_d16 s P
  | .ld_atHLinc_A => exec_ld_atHLinc_A s P
  | .inc_HL => exec_inc_HL s P
  | .inc_H => exec_inc_H s P
  | .dec_H => exec_dec_H s P
  | .ld_H_d8 => exec_ld_H_d8 s P
  | .daa => exec_daa s P
  | .jr_Z_e8 => exec_jr_Z_e8 s P
  | .add_HL_HL => exec_add_HL_HL s P
  | .ld_A_atHLinc => exec_ld_A_atHLinc s P
  | .dec_HL => exec_dec_HL s P
  | .inc_L => exec_inc_L s P
  | .dec_L => exec_dec_L s P
  | .ld_L_d8 => exec_ld_L_d8 s P
  | .cpl => exec_cpl s P
  | .jr_NC_e8 => exec_jr_NC_e8 s P
  | .ld_SP_d16 => exec_ld_SP_d16 s P
  | .ld_atHLdec_A => exec_ld_atHLdec_A s P
  | .inc_SP => exec_inc_SP s P
  | .inc_atHL => exec_inc_atHL s P
  | .dec_atHL => exec_dec_atHL s P
  | .ld_atHL_d8 => exec_ld_atHL_d8 s P
  | .scf => exec_scf s P
  | .jr_C_e8 => exec_jr_C_e8 s P
  | .add_HL_SP => exec_add_HL_SP s P
  | .ld_A_atHLdec => exec_ld_A_atHLdec s P
  | .dec_SP => exec_dec_SP s P
  | .inc_A => exec_inc_A s P
  | .dec_A => exec_dec_A s P
  | .ld_A_d8 => exec_ld_A_d8 s P
  | .ccf => exec_ccf s P
  | .ld_B_B => exec_ld_B_B s P
  | .ld_B_C => exec_ld_B_C s P
  | .ld_B_D => exec_ld_B_D s P
  | .ld_B_E => exec_ld_B_E s P
  | .ld_B_H => exec_ld_B_H s P
  | .ld_B_L => exec_ld_B_L s P
  | .ld_B_atHL => exec_ld_B_atHL s P
  | .ld_B_A => exec_ld_B_A s P
  | .ld_C_B => exec_ld_C_B s P
  | .ld_C_C => exec_ld_C_C s P
  | .ld_C_D => exec_ld_C_D s P
  | .ld_C_E => exec_ld_C_E s P
  | .ld_C_H => exec_ld_C_H s P
  | .ld_C_L => exec_ld_C_L s P
  | .ld_C_atHL => exec_ld_C_atHL s P
  | .ld_C_A => exec_ld_C_A s P
  | .ld_D_B => exec_ld_D_B s P
  | .ld_D_C => exec_ld_D_C s P
  | .ld_D_D => exec_ld_D_D s P
  | .ld_D_E => exec_ld_D_E s P
  | .ld_D_H => exec_ld_D_H s P
  | .ld_D_L => exec_ld_D_L s P
  | .ld_D_atHL => exec_ld_D_atHL s P
  | .ld_D_A => exec_ld_D_A s P
  | .ld_E_B => exec_ld_E_B s P
  | .ld_E_C => exec_ld_E_C s P
  | .ld_E_D => exec_ld_E_D s P
  | .ld_E_E => exec_ld_E_E s P
  | .ld_E_H => exec_ld_E_H s P
  | .ld_E_L => exec_ld_E_L s P
  | .ld_E_atHL => exec_ld_E_atHL s P
  | .ld_E_A => exec_ld_E_A s P
  | .ld_H_B => exec_ld_H_B s P
  | .ld_H_C => exec_ld_H_C s P
  | .ld_H_D => exec_ld_H_D s P
  | .ld_H_E => exec_ld_H_E s P
  | .ld_H_H => exec_ld_H_H s P
  | .ld_H_L => exec_ld_H_L s P
  | .ld_H_atHL => exec_ld_H_atHL s P
  | .ld_H_A => exec_ld_H_A s P
  | .ld_L_B => exec_ld_L_B s P
  | .ld_L_C => exec_ld_L_C s P
  | .ld_L_D => exec_ld_L_D s P
  | .ld_L_E => exec_ld_L_E s P
  | .ld_L_H => exec_ld_L_H s P
  | .ld_L_L => exec_ld_L_L s P
  | .ld_L_atHL => exec_ld_L_atHL s P
  | .ld_L_A => exec_ld_L_A s P
  | .ld_atHL_B => exec_ld_atHL_B s P
  | .ld_atHL_C => exec_ld_atHL_C s P
  | .ld_atHL_D => exec_ld_atHL_D s P
  | .ld_atHL_E => exec_ld_atHL_E s P
  | .ld_atHL_H => exec_ld_atHL_H s P
  | .ld_atHL_L => exec_ld_atHL_L s P
  | .halt => exec_halt s P
  | .ld_atHL_A => exec_ld_atHL_A s P
  | .ld_A_B => exec_ld_A_B s P
  | .ld_A_C => exec_ld_A_C s P
  | .ld_A_D => exec_ld_A_D s P
  | .ld_A_E => exec_ld_A_E s P
  | .ld_A_H => exec_ld_A_H s P
  | .ld_A_L => exec_ld_A_L s P
  | .ld_A_atHL => exec_ld_A_atHL s P
  | .ld_A_A => exec_ld_A_A s P
  | .add_A_B => exec_add_A_B s P
  | .add_A_C => exec_add_A_C s P
  | .add_A_D => exec_add_A_D s P
  | .add_A_E => exec_add_A_E s P
  | .add_A_H => exec_add_A_H s P
  | .add_A_L => exec_add_A_L s P
  | .add_A_atHL => exec_add_A_atHL s P
  | .add_A_A => exec_add_A_A s P
  | .adc_A_B => exec_adc_A_B s P
  | .adc_A_C => exec_adc_A_C s P
  | .adc_A_D => exec_adc_A_D s P
  | .adc_A_E => exec_adc_A_E s P
  | .adc_A_H => exec_adc_A_H s P
  | .adc_A_L => exec_adc_A_L s P
  | .adc_A_atHL => exec_adc_A_atHL s P
  | .adc_A_A => exec_adc_A_A s P
  | .sub_A_B => exec_sub_A_B s P
  | .sub_A_C => exec_sub_A_C s P
  | .sub_A_D => exec_sub_A_D s P
  | .sub_A_E => exec_sub_A_E s P
  | .sub_A_H => exec_sub_A_H s P
  | .sub_A_L => exec_sub_A_L s P
  | .sub_A_atHL => exec_sub_A_atHL s P
  | .sub_A_A => exec_sub_A_A s P
  | .sbc_A_B => exec_sbc_A_B s P
  | .sbc_A_C => exec_sbc_A_C s P
  | .sbc_A_D => exec_sbc_A_D s P
  | .sbc_A_E => exec_sbc_A_E s P
  | .sbc_A_H => exec_sbc_A_H s P
  | .sbc_A_L => exec_sbc_A_L s P
  | .sbc_A_atHL => exec_sbc_A_atHL s P
  | .sbc_A_A => exec_sbc_A_A s P
  | .and_A_B => exec_and_A_B s P
  | .and_A_C => exec_and_A_C s P
  | .and_A_D => exec_and_A_D s P
  | .and_A_E => exec_and_A_E s P
  | .and_A_H => exec_and_A_H s P
  | .and_A_L => exec_and_A_L s P
  | .and_A_atHL => exec_and_A_atHL s P
  | .and_A_A => exec_and_A_A s P
  | .xor_A_B => exec_xor_A_B s P
  | .xor_A_C => exec_xor_A_C s P
  | .xor_A_D => exec_xor_A_D s P
  | .xor_A_E => exec_xor_A_E s P
  | .xor_A_H => exec_xor_A_H s P
  | .xor_A_L => exec_xor_A_L s P
  | .xor_A_atHL => exec_xor_A_atHL s P
  | .xor_A_A => exec_xor_A_A s P
  | .or_A_B => exec_or_A_B s P
  | .or_A_C => exec_or_A_C s P
  | .or_A_D => exec_or_A_D s P
  | .or_A_E => exec_or_A_E s P
  | .or_A_H => exec_or_A_H s P
  | .or_A_L => exec_or_A_L s P
  | .or_A_atHL => exec_or_A_atHL s P
  | .or_A_A => exec_or_A_A s P
  | .cp_A_B => exec_cp_A_B s P
  | .cp_A_C => exec_cp_A_C s P
  | .cp_A_D => exec_cp_A_D s P
  | .cp_A_E => exec_cp_A_E s P
  | .cp_A_H => exec_cp_A_H s P
  | .cp_A_L => exec_cp_A_L s P
  | .cp_A_atHL => exec_cp_A_atHL s P
  | .cp_A_A => exec_cp_A_A s P
  | .ret_NZ => exec_ret_NZ s P
  | .pop_BC => exec_pop_BC s P
  | .jp_NZ_a16 => exec_jp_NZ_a16 s P
  | .jp_a16 => exec_jp_a16 s P
  | .call_NZ_a16 => exec_call_NZ_a16 s P
  | .push_BC => exec_push_BC s P
  | .add_A_d8 => exec_add_A_d8 s P
  | .rst_00 => exec_rst_00 s P
  | .ret_Z => exec_ret_Z s P
  | .ret => exec_ret s P
  | .jp_Z_a16 => exec_jp_Z_a16 s P
  | .call_Z_a16 => exec_call_Z_a16 s P
  | .call_a16 => exec_call_a16 s P
  | .adc_A_d8 => exec_adc_A_d8 s P
  | .rst_08 => exec_rst_08 s P
  | .ret_NC => exec_ret_NC s P
  | .pop_DE => exec_pop_DE s P
  | .jp_NC_a16 => exec_jp_NC_a16 s P
  | .call_NC_a16 => exec_call_NC_a16 s P
  | .push_DE => exec_push_DE s P
  | .sub_A_d8 => exec_sub_A_d8 s P
  | .rst_10 => exec_rst_10 s P
  | .ret_C => exec_ret_C s P
  | .reti => exec_reti s P
  | .jp_C_a16 => exec_jp_C_a16 s P
  | .call_C_a16 => exec_call_C_a16 s P
  | .sbc_A_d8 => exec_sbc_A_d8 s P
  | .rst_18 => exec_rst_18 s P
  | .ldh_atA8_A => exec_ldh_atA8_A s P
  | .pop_HL => exec_pop_HL s P
  | .ldh_atC_A => exec_ldh_atC_A s P
  | .push_HL => exec_push_HL s P
  | .and_A_d8 => exec_and_A_d8 s P
  | .rst_20 => exec_rst_20 s P
  | .add_SP_e8 => exec_add_SP_e8 s P
  | .jp_HL => exec_jp_HL s P
  | .ld_atA16_A => exec_ld_atA16_A s P
  | .xor_A_d8 => exec_xor_A_d8 s P
  | .rst_28 => exec_rst_28 s P
  | .ldh_A_atA8 => exec_ldh_A_atA8 s P
  | .pop_AF => exec_pop_AF s P
  | .ldh_A_atC => exec_ldh_A_atC s P
  | .di => exec_di s P
  | .push_AF => exec_push_AF s P
  | .or_A_d8 => exec_or_A_d8 s P
  | .rst_30 => exec_rst_30 s P
  | .ld_HL_SPe8 => exec_ld_HL_SPe8 s P
  | .ld_SP_HL => exec_ld_SP_HL s P
  | .ld_A_atA16 => exec_ld_A_atA16 s P
  | .ei => exec_ei s P
  | .cp_A_d8 => exec_cp_A_d8 s P
  | .rst_38 => exec_rst_38 s P
  | .rlc_B => exec_rlc_B s P
  | .rlc_C => exec_rlc_C s P
  | .rlc_D => exec_rlc_D s P
  | .rlc_E => exec_rlc_E s P
  | .rlc_H => exec_rlc_H s P
  | .rlc_L => exec_rlc_L s P
  | .rlc_atHL => exec_rlc_atHL s P
  | .rlc_A => exec_rlc_A s P
  | .rrc_B => exec_rrc_B s P
  | .rrc_C => exec_rrc_C s P
  | .rrc_D => exec_rrc_D s P
  | .rrc_E => exec_rrc_E s P
  | .rrc_H => exec_rrc_H s P
  | .rrc_L => exec_rrc_L s P
  | .rrc_atHL => exec_rrc_atHL s P
  | .rrc_A => exec_rrc_A s P
  | .rl_B => exec_rl_B s P
  | .rl_C => exec_rl_C s P
  | .rl_D => exec_rl_D s P
  | .rl_E => exec_rl_E s P
  | .rl_H => exec_rl_H s P
  | .rl_L => exec_rl_L s P
  | .rl_atHL => exec_rl_atHL s P
  | .rl_A => exec_rl_A s P
  | .rr_B => exec_rr_B s P
  | .rr_C => exec_rr_C s P
  | .rr_D => exec_rr_D s P
  | .rr_E => exec_rr_E s P
  | .rr_H => exec_rr_H s P
  | .rr_L => exec_rr_L s P
  | .rr_atHL => exec_rr_atHL s P
  | .rr_A => exec_rr_A s P
  | .sla_B => exec_sla_B s P
  | .sla_C => exec_sla_C s P
  | .sla_D => exec_sla_D s P
  | .sla_E => exec_sla_E s P
  | .sla_H => exec_sla_H s P
  | .sla_L => exec_sla_L s P
  | .sla_atHL => exec_sla_atHL s P
  | .sla_A => exec_sla_A s P
  | .sra_B => exec_sra_B s P
  | .sra_C => exec_sra_C s P
  | .sra_D => exec_sra_D s P
  | .sra_E => exec_sra_E s P
  | .sra_H => exec_sra_H s P
  | .sra_L => exec_sra_L s P
  | .sra_atHL => exec_sra_atHL s P
  | .sra_A => exec_sra_A s P
  | .swap_B => exec_swap_B s P
  | .swap_C => exec_swap_C s P
  | .swap_D => exec_swap_D s P
  | .swap_E => exec_swap_E s P
  | .swap_H => exec_swap_H s P
  | .swap_L => exec_swap_L s P
  | .swap_atHL => exec_swap_atHL s P
  | .swap_A => exec_swap_A s P
  | .srl_B => exec_srl_B s P
  | .srl_C => exec_srl_C s P
  | .srl_D => exec_srl_D s P
  | .srl_E => exec_srl_E s P
  | .srl_H => exec_srl_H s P
  | .srl_L => exec_srl_L s P
  | .srl_atHL => exec_srl_atHL s P
  | .srl_A => exec_srl_A s P
  | .bit_0_B => exec_bit_0_B s P
  | .bit_0_C => exec_bit_0_C s P
  | .bit_0_D => exec_bit_0_D s P
  | .bit_0_E => exec_bit_0_E s P
  | .bit_0_H => exec_bit_0_H s P
  | .bit_0_L => exec_bit_0_L s P
  | .bit_0_atHL => exec_bit_0_atHL s P
  | .bit_0_A => exec_bit_0_A s P
  | .bit_1_B => exec_bit_1_B s P
  | .bit_1_C => exec_bit_1_C s P
  | .bit_1_D => exec_bit_1_D s P
  | .bit_1_E => exec_bit_1_E s P
  | .bit_1_H => exec_bit_1_H s P
  | .bit_1_L => exec_bit_1_L s P
  | .bit_1_atHL => exec_bit_1_atHL s P
  | .bit_1_A => exec_bit_1_A s P
  | .bit_2_B => exec_bit_2_B s P
  | .bit_2_C => exec_bit_2_C s P
  | .bit_2_D => exec_bit_2_D s P
  | .bit_2_E => exec_bit_2_E s P
  | .bit_2_H => exec_bit_2_H s P
  | .bit_2_L => exec_bit_2_L s P
  | .bit_2_atHL => exec_bit_2_atHL s P
  | .bit_2_A => exec_bit_2_A s P
  | .bit_3_B => exec_bit_3_B s P
  | .bit_3_C => exec_bit_3_C s P
  | .bit_3_D => exec_bit_3_D s P
  | .bit_3_E => exec_bit_3_E s P
  | .bit_3_H => exec_bit_3_H s P
  | .bit_3_L => exec_bit_3_L s P
  | .bit_3_atHL => exec_bit_3_atHL s P
  | .bit_3_A => exec_bit_3_A s P
  | .bit_4_B => exec_bit_4_B s P
  | .bit_4_C => exec_bit_4_C s P
  | .bit_4_D => exec_bit_4_D s P
  | .bit_4_E => exec_bit_4_E s P
  | .bit_4_H => exec_bit_4_H s P
  | .bit_4_L => exec_bit_4_L s P
  | .bit_4_atHL => exec_bit_4_atHL s P
  | .bit_4_A => exec_bit_4_A s P
  | .bit_5_B => exec_bit_5_B s P
  | .bit_5_C => exec_bit_5_C s P
  | .bit_5_D => exec_bit_5_D s P
  | .bit_5_E => exec_bit_5_E s P
  | .bit_5_H => exec_bit_5_H s P
  | .bit_5_L => exec_bit_5_L s P
  | .bit_5_atHL => exec_bit_5_atHL s P
  | .bit_5_A => exec_bit_5_A s P
  | .bit_6_B => exec_bit_6_B s P
  | .bit_6_C => exec_bit_6_C s P
  | .bit_6_D => exec_bit_6_D s P
  | .bit_6_E => exec_bit_6_E s P
  | .bit_6_H => exec_bit_6_H s P
  | .bit_6_L => exec_bit_6_L s P
  | .bit_6_atHL => exec_bit_6_atHL s P
  | .bit_6_A => exec_bit_6_A s P
  | .bit_7_B => exec_bit_7_B s P
  | .bit_7_C => exec_bit_7_C s P
  | .bit_7_D => exec_bit_7_D s P
  | .bit_7_E => exec_bit_7_E s P
  | .bit_7_H => exec_bit_7_H s P
  | .bit_7_L => exec_bit_7_L s P
  | .bit_7_atHL => exec_bit_7_atHL s P
  | .bit_7_A => exec_bit_7_A s P
  | .res_0_B => exec_res_0_B s P
  | .res_0_C => exec_res_0_C s P
  | .res_0_D => exec_res_0_D s P
  | .res_0_E => exec_res_0_E s P
  | .res_0_H => exec_res_0_H s P
  | .res_0_L => exec_res_0_L s P
  | .res_0_atHL => exec_res_0_atHL s P
  | .res_0_A => exec_res_0_A s P
  | .res_1_B => exec_res_1_B s P
  | .res_1_C => exec_res_1_C s P
  | .res_1_D => exec_res_1_D s P
  | .res_1_E => exec_res_1_E s P
  | .res_1_H => exec_res_1_H s P
  | .res_1_L => exec_res_1_L s P
  | .res_1_atHL => exec_res_1_atHL s P
  | .res_1_A => exec_res_1_A s P
  | .res_2_B => exec_res_2_B s P
  | .res_2_C => exec_res_2_C s P
  | .res_2_D => exec_res_2_D s P
  | .res_2_E => exec_res_2_E s P
  | .res_2_H => exec_res_2_H s P
  | .res_2_L => exec_res_2_L s P
  | .res_2_atHL => exec_res_2_atHL s P
  | .res_2_A => exec_res_2_A s P
  | .res_3_B => exec_res_3_B s P
  | .res_3_C => exec_res_3_C s P
  | .res_3_D => exec_res_3_D s P
  | .res_3_E => exec_res_3_E s P
  | .res_3_H => exec_res_3_H s P
  | .res_3_L => exec_res_3_L s P
  | .res_3_atHL => exec_res_3_atHL s P
  | .res_3_A => exec_res_3_A s P
  | .res_4_B => exec_res_4_B s P
  | .res_4_C => exec_res_4_C s P
  | .res_4_D => exec_res_4_D s P
  | .res_4_E => exec_res_4_E s P
  | .res_4_H => exec_res_4_H s P
  | .res_4_L => exec_res_4_L s P
  | .res_4_atHL => exec_res_4_atHL s P
  | .res_4_A => exec_res_4_A s P
  | .res_5_B => exec_res_5_B s P
  | .res_5_C => exec_res_5_C s P
  | .res_5_D => exec_res_5_D s P
  | .res_5_E => exec_res_5_E s P
  | .res_5_H => exec_res_5_H s P
  | .res_5_L => exec_res_5_L s P
  | .res_5_atHL => exec_res_5_atHL s P
  | .res_5_A => exec_res_5_A s P
  | .res_6_B => exec_res_6_B s P
  | .res_6_C => exec_res_6_C s P
  | .res_6_D => exec_res_6_D s P
  | .res_6_E => exec_res_6_E s P
  | .res_6_H => exec_res_6_H s P
  | .res_6_L => exec_res_6_L s P
  | .res_6_atHL => exec_res_6_atHL s P
  | .res_6_A => exec_res_6_A s P
  | .res_7_B => exec_res_7_B s P
  | .res_7_C => exec_res_7_C s P
  | .res_7_D => exec_res_7_D s P
  | .res_7_E => exec_res_7_E s P
  | .res_7_H => exec_res_7_H s P
  | .res_7_L => exec_res_7_L s P
  | .res_7_atHL => exec_res_7_atHL s P
  | .res_7_A => exec_res_7_A s P
  | .set_0_B => exec_set_0_B s P
  | .set_0_C => exec_set_0_C s P
  | .set_0_D => exec_set_0_D s P
  | .set_0_E => exec_set_0_E s P
  | .set_0_H => exec_set_0_H s P
  | .set_0_L => exec_set_0_L s P
  | .set_0_atHL => exec_set_0_atHL s P
  | .set_0_A => exec_set_0_A s P
  | .set_1_B => exec_set_1_B s P
  | .set_1_C => exec_set_1_C s P
  | .set_1_D => exec_set_1_D s P
  | .set_1_E => exec_set_1_E s P
  | .set_1_H => exec_set_1_H s P
  | .set_1_L => exec_set_1_L s P
  | .set_1_atHL => exec_set_1_atHL s P
  | .set_1_A => exec_set_1_A s P
  | .set_2_B => exec_set_2_B s P
  | .set_2_C => exec_set_2_C s P
  | .set_2_D => exec_set_2_D s P
  | .set_2_E => exec_set_2_E s P
  | .set_2_H => exec_set_2_H s P
  | .set_2_L => exec_set_2_L s P
  | .set_2_atHL => exec_set_2_atHL s P
  | .set_2_A => exec_set_2_A s P
  | .set_3_B => exec_set_3_B s P
  | .set_3_C => exec_set_3_C s P
  | .set_3_D => exec_set_3_D s P
  | .set_3_E => exec_set_3_E s P
  | .set_3_H => exec_set_3_H s P
  | .set_3_L => exec_set_3_L s P
  | .set_3_atHL => exec_set_3_atHL s P
  | .set_3_A => exec_set_3_A s P
  | .set_4_B => exec_set_4_B s P
  | .set_4_C => exec_set_4_C s P
  | .set_4_D => exec_set_4_D s P
  | .set_4_E => exec_set_4_E s P
  | .set_4_H => exec_set_4_H s P
  | .set_4_L => exec_set_4_L s P
  | .set_4_atHL => exec_set_4_atHL s P
  | .set_4_A => exec_set_4_A s P
  | .set_5_B => exec_set_5_B s P
  | .set_5_C => exec_set_5_C s P
  | .set_5_D => exec_set_5_D s P
  | .set_5_E => exec_set_5_E s P
  | .set_5_H => exec_set_5_H s P
  | .set_5_L => exec_set_5_L s P
  | .set_5_atHL => exec_set_5_atHL s P
  | .set_5_A => exec_set_5_A s P
  | .set_6_B => exec_set_6_B s P
  | .set_6_C => exec_set_6_C s P
  | .set_6_D => exec_set_6_D s P
  | .set_6_E => exec_set_6_E s P
  | .set_6_H => exec_set_6_H s P
  | .set_6_L => exec_set_6_L s P
  | .set_6_atHL => exec_set_6_atHL s P
  | .set_6_A => exec_set_6_A s P
  | .set_7_B => exec_set_7_B s P
  | .set_7_C => exec_set_7_C s P
  | .set_7_D => exec_set_7_D s P
  | .set_7_E => exec_set_7_E s P
  | .set_7_H => exec_set_7_H s P
  | .set_7_L => exec_set_7_L s P
  | .set_7_atHL => exec_set_7_atHL s P
  | .set_7_A => exec_set_7_A s P

end Sys2Proof.Machine
end

