-- ==== Sys2Proof/Machine/Engine.lean ====
section
/-! DEFINITION. The step loop `step(irq_pending)` of R410: fetch, decode, execute and commit, with the EI delay (R415), the
HALT bug (R416), the modes that do nothing (R414) and the decode failure (R418), over any parameters (R6). -/

namespace Sys2Proof.Machine

/-- The base address of the next instruction: one less than PC under the HALT bug (R410, R416). -/
def State.fetchBase (s : State) : Word := if s.haltBug then s.pc - 1 else s.pc

/-- What the fetch stage reads: the opcode byte, its address, and whether it was CB-prefixed (R410, R411). -/
structure Fetched where
  opcode     : Byte
  address    : Word
  isPrefixed : Bool
deriving DecidableEq, Repr

/-- The fetch stage (R410, R411): the byte at PC, and after a 0xCB the byte that follows the base address; and the state
after those reads. -/
def State.fetchOpcode (s : State) (P : Params := Params.default) : Fetched × State :=
  let b0 := s.memRead s.pc P
  if b0.1 = 0xCB#8 then
    let op := b0.2.memRead (s.fetchBase + 1) P
    (⟨op.1, s.fetchBase + 1, true⟩, op.2)
  else (⟨b0.1, s.pc, false⟩, b0.2)

/-- The fetch stage over plain RAM. -/
def State.fetch (s : State) : Fetched := s.fetchOpcode.1

/-- The state the execute stage is given: PC is the instruction's base address and halt_bug is clear (R410, R416). -/
def State.toExecute (s : State) : State := { s with pc := s.fetchBase, haltBug := false }

/-- The end of a step that executed i (R410, R415): if ime_pending was set before it, IME becomes 1 and ime_pending 0,
unless i is DI. -/
def finishEiDelay (pending : Bool) (i : Instr) (s : State) : State :=
  if pending && i != .di then (s.setIme true).setImePending false else s

/-- What an operation of the core answers: the state after it and its reply, or a stop that an instruction's meaning
answered. -/
abbrev CallResult := Host.Outcome (State × Reply) Fault Refusal

/-- Execute and commit a decoded instruction (R410, R412, R415). -/
def executeDecoded (i : Instr) (s : State) (P : Params := Params.default) : CallResult :=
  match execOn P i s.toExecute with
  | .next t => .next (finishEiDelay s.imePending i t, .ok)
  | .fault r => .fault r
  | .refused r => .refused r

/-- A step in mode Running (R410): on a decode failure only mode and report change, and what the fetch's reads did to the
bus (R418, R1203). -/
def stepRunning (s : State) (P : Params := Params.default) : CallResult :=
  let w := s.fetchOpcode P
  match decodeAdmitting P.admitted w.1.opcode w.1.isPrefixed with
  | some i => executeDecoded i w.2 P
  | none =>
    let r : Report := ⟨w.1.opcode, w.1.address, w.1.isPrefixed⟩
    .next (w.2.failDecode r, .decodeFailure r)

/-- `step(irq_pending)` (R410), the line at the level the state holds. -/
def stepMode (s : State) (P : Params := Params.default) : CallResult :=
  match s.mode with
  | .failed r => .next (s, .decodeFailure r)
  | .halted => .next (s, .halted)
  | .stopped => .next (s, .stopped)
  | .running => stepRunning s P

/-- `step(irq_pending)` (R410): the argument is the level of the line in this step. -/
def stepCall (irq : Bool) (s : State) (P : Params := Params.default) : CallResult :=
  stepMode { s with irqPending := irq } P

/-- The mode after a direct execute: the instruction's, but mode Failed stays (R102, R1203: only reset leaves it;
notes/assumptions/9.md). -/
def modeAfterExecute (before after : Mode) : Mode :=
  match before with
  | .failed r => .failed r
  | _ => after

/-- `execute(instruction)` called directly (R401, R402, D22): base address PC and irq_pending false; next pc is returned
and not committed, and the EI delay is not applied. -/
def executeCall (i : Instr) (s : State) (P : Params := Params.default) : CallResult :=
  match execOn P i { s with irqPending := false } with
  | .next t =>
    .next ({ t with pc := s.pc, irqPending := s.irqPending, mode := modeAfterExecute s.mode t.mode }, .nextPc t.pc)
  | .fault r => .fault r
  | .refused r => .refused r

end Sys2Proof.Machine
end

