-- ==== Sys2Proof/Machine/Embedder.lean ====
section
/-! DEFINITION. The embedder's operations on the core (R1270) and one machine step over the calls State holds, over any
parameters (R6); and the reference embedder loop (R1215). -/

namespace Sys2Proof.Machine

/-- One operation of R1270 on the core. -/
def hostCall (c : HostCall) (s : State) (P : Params := Params.default) : CallResult :=
  match c with
  | .step irq => stepCall irq s P
  | .execute i => executeCall i s P
  | .interrupt k => .next (s.interrupt k P)
  | .wake => .next s.wake
  | .write w => .next (s.writeItem w, .done)
  | .busWrite addr v => .next (s.writeByte addr v P, .done)
  | .busChange b => .next (s.setBus b, .done)
  | .reset pc r => .next (s.resetCore pc r, .done)

/-- The machine's outcome of an operation: a step that returns `DecodeFailure` is a fault (R1203, R1271; log 6). -/
def outcomeOf (r : CallResult) : Result :=
  match r with
  | .next (_, .decodeFailure rep) => .fault (.decodeFailure rep)
  | .next (t, _) => .next t
  | .fault x => .fault x
  | .refused x => .refused x

/-- One operation of the machine: the embedder's next call, or with no call waiting a `step` with the line as it
stands (notes/assumptions/2.md). -/
def nextOperation (s : State) (P : Params := Params.default) : CallResult :=
  match s.calls with
  | [] => stepMode s P
  | c :: rest => hostCall c { s with calls := rest } P

/-- One step of the machine over the parameters P: the embedder's next operation on the core (R410, R1270). -/
def stepOn (P : Params) (s : State) : Result := outcomeOf (nextOperation s P)

/-! ### The reference embedder loop (R1213 to R1215) -/

/-- The lowest-numbered source both enabled and requested (R1214), from the controller's five bits (R1213). -/
def lowestSource (req : BitVec 5) : Option (Fin 5) :=
  (List.finRange 5).find? fun k => req.getLsbD k.val

/-- One turn of the reference loop (R1215) on the sources both enabled and requested: the calls it makes, in order, and
the sources still requested. -/
def referenceTurn (req : BitVec 5) (s : State) : List HostCall × BitVec 5 :=
  let stepping := HostCall.step (req != 0#5)
  match lowestSource req with
  | none => ([stepping], req)
  | some k =>
    if s.takesInterrupt then ([.interrupt k, stepping], req &&& ~~~(1#5 <<< k.val))
    else if s.mode == .halted then ([.wake, stepping], req)
    else ([stepping], req)

end Sys2Proof.Machine
end

