-- ==== Sys2Proof/Machine/Step.lean ====
section
/-! DEFINITION. One step of the machine, and placing an instruction where it fetches. -/

namespace Sys2Proof.Machine

/-- One step, with every parameter of R6 at its default: the embedder's next operation on the core (R410, R1270).
Over other parameters it is `stepOn`. -/
def step (s : State) : Host.Outcome State Fault Refusal := stepOn Params.default s

/-- The state with an instruction, numbered as opcode_table.json numbers it, stored where the next step fetches: its bytes
at PC, the core running with no HALT bug, and no call waiting before the step. -/
def State.withFetchWord (s : State) (nbits w : Nat) : State :=
  State.placeBytes (tableBytes nbits w) s.pc
    { s with mode := .running, haltBug := false, calls := [] }

end Sys2Proof.Machine
end

