-- ==== Sys2Proof/Safety.lean ====
section
/-! DEFINITION. What claims call a good state, a safe run, the end of a run, and the order of bus accesses. -/

namespace Sys2Proof.Machine

/-- The run calls (notes/assumptions/17.md): those by which a controller and other bus agents act on the core (R1215, R245).
They are all of R1270 but the accessor writes and direct executes, which set a start state (R102); a change of the bus state
as a whole leaves RAM in its canonical form. -/
def HostCall.isRunCall : HostCall → Bool
  | .write _ => false
  | .execute _ => false
  | .busChange b => decide (Memory.wf b.mem)
  | .step _ | .interrupt _ | .wake | .busWrite _ _ | .reset _ _ => true

/-- EI's delay and the HALT bug wait only for a next instruction: in Halted and Stopped neither is set, and while the HALT
bug waits interrupts are off (R141, R151, R1110). -/
abbrev State.latchesOk (s : State) : Prop :=
  (s.mode = .halted ∨ s.mode = .stopped → s.imePending = false ∧ s.haltBug = false) ∧
    (s.haltBug = true → s.ime = false ∧ s.imePending = false)

/-- The machine's invariant over a run: memory in its canonical form, the latches as above, and no accessor write or
direct execute among the calls still to come. -/
abbrev State.inv (s : State) : Prop :=
  Memory.wf s.mem ∧ s.latchesOk ∧ s.calls.all HostCall.isRunCall = true

/-- No step of the first k faults or is refused. -/
def runsFor (k : Nat) (s : State) : Prop := ∃ t, Host.Core.run Sys2Proof.core k s = .next t

/-- The run never stops with a fault: no decode failure (R1203, R1271). -/
def faultFree (s : State) : Prop := ∀ k, runsFor k s

/-- The calls that may resume a halted core: interrupt entry and wake (R1271). -/
def HostCall.mayResume : HostCall → Bool
  | .interrupt _ | .wake => true
  | .step _ | .execute _ | .write _ | .busWrite _ _ | .busChange _ | .reset _ _ => false

/-- Whether an operation's answer ends a run normally (R1271, D25): it returned `Stopped`, or `Halted` with no interrupt or
wake among the calls still to come (notes/assumptions/2.md). -/
def endsRun (r : CallResult) : Bool :=
  match r with
  | .next (_, .stopped) => true
  | .next (t, .halted) => !t.calls.any HostCall.mayResume
  | _ => false

/-- The machine's next step ends a run normally. -/
def State.endsNow (s : State) : Bool := endsRun (nextOperation s)

/-- After j steps the next one is the first that ends the run normally (R1271). -/
def endsNormallyAfter (j : Nat) (s : State) : Prop :=
  (∃ t, Host.Core.run Sys2Proof.core j s = .next t ∧ t.endsNow = true) ∧
    ∀ i u, i < j → Host.Core.run Sys2Proof.core i s = .next u → u.endsNow = false

/-- The run ends normally, at its step number k or before (R1271). -/
def endsNormallyWithin (k : Nat) (s : State) : Prop := ∃ j, j < k ∧ endsNormallyAfter j s

/-- The run hangs: no step of it faults and none ends it (R1271). -/
def hangs (s : State) : Prop := ∀ k, ∃ t, Host.Core.run Sys2Proof.core k s = .next t ∧ t.endsNow = false

/-! ### The terms of frames and results -/

/-- Every byte of memory reads as before but those at the listed addresses. -/
def sameMemoryExcept (addrs : List Word) (s t : State) : Prop :=
  ∀ addr, addr ∉ addrs → t.readByte addr = s.readByte addr

/-- The control items, the bus state beside RAM and the embedder's inputs are unchanged. -/
def sameControl (s t : State) : Prop :=
  t.ime = s.ime ∧ t.imePending = s.imePending ∧ t.mode = s.mode ∧ t.haltBug = s.haltBug ∧
    t.device = s.device ∧ t.irqPending = s.irqPending ∧ t.calls = s.calls

/-- The 8-bit operand r now holds v, and no other 8-bit register and no other byte of memory has changed; for `(HL)` the
byte stored to is the one at HL. -/
def wroteR8 (r : R8) (v : Byte) (s t : State) : Prop :=
  t.getR8 r = v ∧ (∀ r', r' ≠ .hlInd → r' ≠ r → t.getR8 r' = s.getR8 r') ∧
    sameMemoryExcept (if r = .hlInd then [s.hl] else []) s t

/-- The pair rr now holds v; A, the other pairs and the bus state are unchanged. -/
def wroteR16 (rr : R16) (v : Word) (s t : State) : Prop :=
  t.getR16 rr = v ∧ (∀ rr', rr' ≠ rr → t.getR16 rr' = s.getR16 rr') ∧ t.a = s.a ∧ t.mem = s.mem ∧ t.device = s.device

/-- v has been pushed (R430): SP two lower, the high byte at SP - 1 and the low byte at SP - 2 of before, and every other
byte of memory as before. -/
def pushedWord (v : Word) (s t : State) : Prop :=
  t.sp = s.sp - 2 ∧ t.readByte (s.sp - 1) = hiByte v ∧ t.readByte (s.sp - 2) = loByte v ∧
    sameMemoryExcept [s.sp - 1, s.sp - 2] s t

/-- What a flags column character says of a flag before and after (R334, R122). -/
def flagAllows (e : FlagEffect) (before after : Bool) : Prop :=
  match e with
  | .computed => True
  | .zero => after = false
  | .one => after = true
  | .keep => after = before

/-- The control transfers: the variants whose next pc is not always pc plus the length (43_control_transfer.md). -/
def transfers : Form → Bool
  | .jp _ | .jpHL | .jr _ | .call _ | .retCC _ | .ret | .reti | .rst _ => true
  | _ => false

/-- HALT right after EI with an interrupt pending: the one non-transfer that does not advance PC (R1110). -/
def State.haltStays (s : State) : Bool := !s.ime && s.imePending && s.irqPending

/-- The HALT bug's condition (R151, R1110): HALT does not halt. -/
def State.haltBugs (s : State) : Bool := !s.ime && !s.imePending && s.irqPending

/-- The addresses an instruction stores to, from the state it runs in; every other byte of memory it leaves. -/
def storeAddrs (f : Form) (s : State) : List Word :=
  match f with
  | .ldR8R8 .hlInd _ | .ldR8D8 .hlInd | .incR8 .hlInd | .decR8 .hlInd | .rot _ .hlInd | .resetBit _ .hlInd
  | .setBit _ .hlInd => [s.hl]
  | .ldMA m => [s.memAddr m]
  | .ldA16A => [s.imm16]
  | .ldhA8A => [highPage s.imm8]
  | .ldhCA => [highPage s.c]
  | .ldA16SP => [s.imm16, s.imm16 + 1]
  | .push _ | .rst _ => [s.sp - 1, s.sp - 2]
  | .call t => if jumpTestHolds t s.f then [s.sp - 1, s.sp - 2] else []
  | _ => []

/-! ### The order of bus accesses (R16, R220) -/

/-- One access of the core to the bus (R200). -/
inductive Access where
  | read (addr : Word)
  | write (addr : Word) (v : Byte)
deriving DecidableEq, Repr

/-- An access as a number. -/
def Access.code : Access → Nat
  | .read addr => addr.toNat
  | .write addr v => 65536 + addr.toNat * 256 + v.toNat

/-- A bus with a side effect on every access (R223): plain RAM that writes the accesses down in its device state, in the
order they take effect (R240). -/
def recordingRam : Bus :=
  { read := fun b addr => ((plainRam.read b addr).1, { b with device := b.device ++ [(Access.read addr).code] })
    write := fun b addr v =>
      { plainRam.write b addr v with device := b.device ++ [(Access.write addr v).code] } }

/-- The parameters with that bus. -/
def Params.recording : Params := { Params.default with bus := recordingRam }

/-- What the fetch stage reads (R411): the opcode byte at PC, and after a 0xCB the byte after the base address. -/
def fetchReads (s : State) : List Access :=
  if s.readByte s.pc = 0xCB#8 then [.read s.pc, .read (s.fetchBase + 1)] else [.read s.pc]

/-- The reads of an instruction's operand bytes (R220): all of them, at increasing addresses. The second byte of a CB
instruction is its opcode and is read by the fetch stage. -/
def operandReads (i : Instr) (s : State) : List Access :=
  if i.row.prefixed then []
  else (List.range (i.length - 1)).map fun k => .read (s.pc + 1 + BitVec.ofNat 16 k)

/-- The read of an 8-bit operand (R420): one, for (HL) alone. -/
def operandRead (r : R8) (s : State) : List Access := if r = .hlInd then [.read s.hl] else []

/-- The write of an 8-bit operand (R421): one, for (HL) alone. -/
def operandWrite (r : R8) (v : Byte) (s : State) : List Access := if r = .hlInd then [.write s.hl v] else []

/-- The writes of a push (R430): the high byte first. -/
def pushWrites (v : Word) (s : State) : List Access :=
  [.write (s.sp - 1) (hiByte v), .write (s.sp - 2) (loByte v)]

/-- The reads of a pop (R431): the low byte first. -/
def popReads (s : State) : List Access := [.read s.sp, .read (s.sp + 1)]

/-- The data reads and writes an instruction's rule names, in its order (R220), over plain RAM. -/
def dataAccesses (f : Form) (s : State) : List Access :=
  match f with
  | .ldR8R8 dst src => operandRead src s ++ operandWrite dst (s.getR8 src) s
  | .ldR8D8 dst => operandWrite dst s.imm8 s
  | .ldAM m => [.read (s.memAddr m)]
  | .ldMA m => [.write (s.memAddr m) s.a]
  | .ldAA16 => [.read s.imm16]
  | .ldA16A => [.write s.imm16 s.a]
  | .ldhAA8 => [.read (highPage s.imm8)]
  | .ldhA8A => [.write (highPage s.imm8) s.a]
  | .ldhAC => [.read (highPage s.c)]
  | .ldhCA => [.write (highPage s.c) s.a]
  | .ldA16SP => [.write s.imm16 (loByte s.sp), .write (s.imm16 + 1) (hiByte s.sp)]
  | .push rr => pushWrites (s.getR16stk rr) s
  | .pop _ | .ret | .reti => popReads s
  | .retCC cc => if jumpTestHolds (.cond cc) s.f then popReads s else []
  | .call t => if jumpTestHolds t s.f then pushWrites (s.pc + 3) s else []
  | .rst _ => pushWrites (s.pc + 1) s
  | .aluR8 _ r | .testBit _ r => operandRead r s
  | .incR8 r => operandRead r s ++ operandWrite r (s.getR8 r + 1) s
  | .decR8 r => operandRead r s ++ operandWrite r (s.getR8 r - 1) s
  | .rot op r => operandRead r s ++ operandWrite r (rotate op (s.getR8 r) s.f.c).1 s
  | .resetBit b r => operandRead r s ++ operandWrite r (s.getR8 r &&& ~~~bitMask b) s
  | .setBit b r => operandRead r s ++ operandWrite r (s.getR8 r ||| bitMask b) s
  | .nop | .stop | .halt | .di | .ei | .ldR16D16 _ | .ldSPHL | .ldHLSPe8 | .aluD8 _ | .daa | .cpl | .scf | .ccf
  | .addHLR16 _ | .incR16 _ | .decR16 _ | .addSPe8 | .rlca | .rrca | .rla | .rra | .jp _ | .jpHL | .jr _ => []

/-! ### What an instruction may write -/

/-- Whether a pair holds an 8-bit register (R110 to R112). -/
def pairHolds (rr : R16) (r : R8) : Bool :=
  match rr with
  | .bc => r == .b || r == .c
  | .de => r == .d || r == .e
  | .hl => r == .h || r == .l
  | .sp => false

/-- Whether an instruction may write the 8-bit register r (R106). -/
def mayWrite (f : Form) (r : R8) : Bool :=
  match f with
  | .ldR8R8 dst _ | .ldR8D8 dst | .incR8 dst | .decR8 dst | .rot _ dst | .resetBit _ dst | .setBit _ dst => r == dst
  | .ldAM .hlInc | .ldAM .hlDec => r == .a || pairHolds .hl r
  | .ldAM _ | .ldAA16 | .ldhAA8 | .ldhAC | .daa | .cpl | .rlca | .rrca | .rla | .rra => r == .a
  | .ldMA .hlInc | .ldMA .hlDec | .addHLR16 _ | .ldHLSPe8 | .pop .hl => pairHolds .hl r
  | .ldR16D16 rr | .incR16 rr | .decR16 rr => pairHolds rr r
  | .pop .bc => pairHolds .bc r
  | .pop .de => pairHolds .de r
  | .pop .af => r == .a
  | .aluR8 op _ | .aluD8 op => op != .cp && r == .a
  | _ => false

/-- Whether an instruction may write SP (R134). -/
def mayWriteSp : Form → Bool
  | .ldR16D16 .sp | .incR16 .sp | .decR16 .sp | .ldSPHL | .addSPe8 | .push _ | .pop _ | .call _ | .retCC _ | .ret | .reti
  | .rst _ => true
  | _ => false

/-- The two decimal digits of a number below 100 as a byte, for DAA's decimal arithmetic (R560). -/
def bcdByte (n : Nat) : Byte := BitVec.ofNat 8 (n / 10 * 16 + n % 10)

end Sys2Proof.Machine
end

