-- ==== Sys2Proof/WellFormed.lean ====
section
/-! DEFINITION. What makes an instruction term well-formed.
An `Instr` fixes every operand selector, so each of its values is well-formed; the checks are on the variants of R340 and on
an instruction together with its operand bytes. -/

namespace Sys2Proof

/-- The one exclusion of R340: LD (HL),(HL) is no variant (its slot in the table is HALT, R1110). -/
def Form.wf : Form → Bool
  | .ldR8R8 dst src => !(dst == .hlInd && src == .hlInd)
  | _ => true

/-- An assembled instruction has exactly the operand bytes its format gives it (R300, R302). -/
def Assembled.wf (a : Assembled) : Bool := a.operands.length == a.instr.operandLength

end Sys2Proof
end

