-- ==== Sys2Proof/Certificates/Slice0/Obligations.lean ====
section
/-! DEFINITION. The statements about this machine, one `def Obligations.<Name> : Prop` each. OBLIGATIONS.json lists them.
Where a statement names no parameters, they are at their defaults (R6): plain RAM and every defined entry admitted.
The statements about an instruction begin with its encoding (which opcode byte of which table decodes to it), then give the
state it answers from the state it is given, whose PC is the instruction's base address (notes/assumptions/7.md).
`Form.aluR8 .add r` and the like name the rows of a family by their operand selectors (R340); `Form.instr` gives the
constructor of `Instr`. The vocabulary (`wroteR8`, `pushedWord`, `sameMemoryExcept`, …) is Sys2Proof/Safety.lean's. -/

open Sys2Proof Sys2Proof.Machine

/-! ### Encoding -/

/-- Words written out from the encodings of each family decode to the instruction they stand for (R302, R332, R333). -/
def Obligations.SpelledOutWordsDecode : Prop :=
  decodeBytes [0x81#8] = .ok (⟨.add_A_C, []⟩, []) ∧
  decodeBytes [0xE6#8, 0x38#8] = .ok (⟨.and_A_d8, [0x38#8]⟩, []) ∧
  decodeBytes [0x09#8] = .ok (⟨.add_HL_BC, []⟩, []) ∧
  decodeBytes [0xCA#8, 0x34#8, 0x12#8] = .ok (⟨.jp_Z_a16, [0x34#8, 0x12#8]⟩, []) ∧
  decodeBytes [0x36#8, 0x42#8, 0x00#8] = .ok (⟨.ld_atHL_d8, [0x42#8]⟩, [0x00#8]) ∧
  decodeBytes [0x08#8, 0xFF#8, 0xFF#8] = .ok (⟨.ld_atA16_SP, [0xFF#8, 0xFF#8]⟩, []) ∧
  decodeBytes [0xCB#8, 0x7C#8] = .ok (⟨.bit_7_H, []⟩, []) ∧
  decodeBytes [0xCB#8, 0xCB#8] = .ok (⟨.set_1_E, []⟩, []) ∧
  decodeBytes [0x76#8] = .ok (⟨.halt, []⟩, []) ∧
  decodeBytes [0xDD#8, 0x00#8] = .error (.unimplemented 0xDD#8 false)

/-- Decode and encode agree: for every instruction with operand bytes of its format, at every value they can have, and
whatever bytes stand after it, decoding the encoded bytes gives the instruction and its operands back and leaves the
rest. -/
def Obligations.DecodeOfEncodeIsIdentity : Prop :=
  ∀ (x : Assembled) (rest : List Byte), x.wf = true → decodeBytes (encode x ++ rest) = .ok (x, rest)

/-- The other direction: whatever bytes the decoder reads as an instruction are that instruction's encoding followed by
the rest, and what it reads is well-formed. No two strings of bytes are one instruction, and no bit is ignored. -/
def Obligations.EncodeOfDecodeIsIdentity : Prop :=
  ∀ (bytes : List Byte) (x : Assembled) (rest : List Byte),
    decodeBytes bytes = .ok (x, rest) → x.wf = true ∧ encode x ++ rest = bytes

/-- R341: decode and the variants correspond one to one. Every defined entry decodes to exactly one variant; every
variant but LD (HL),(HL) is the decode of exactly one entry; and the length is a function of the variant: 2 in the CB
table, and in the plain table what the formats of R302 give its opcode. -/
def Obligations.DecodeAndVariantsAreOneToOne : Prop :=
  (∀ (op : Byte) (p : Bool) (i : Instr), decode op p = some i ↔ i.row.opcode = op ∧ i.row.prefixed = p) ∧
  (∀ f : Form, f.wf = true → ∃! entry : Byte × Bool, decode entry.1 entry.2 = some f.instr) ∧
  (∀ f g : Form, f.wf = true → g.wf = true → f.instr = g.instr → f = g) ∧
  (∀ (op : Byte) (i : Instr), decode op true = some i → i.length = 2) ∧
  (∀ (op : Byte) (i : Instr), decode op false = some i → i.length =
    if op ∈ [0x01#8, 0x11#8, 0x21#8, 0x31#8, 0x08#8, 0xC2#8, 0xC3#8, 0xC4#8, 0xCA#8, 0xCC#8, 0xCD#8, 0xD2#8, 0xD4#8,
      0xDA#8, 0xDC#8, 0xEA#8, 0xFA#8] then 3
    else if op ∈ [0x06#8, 0x0E#8, 0x16#8, 0x1E#8, 0x26#8, 0x2E#8, 0x36#8, 0x3E#8, 0x10#8, 0x18#8, 0x20#8, 0x28#8, 0x30#8,
      0x38#8, 0xC6#8, 0xCE#8, 0xD6#8, 0xDE#8, 0xE6#8, 0xEE#8, 0xF6#8, 0xFE#8, 0xE0#8, 0xF0#8, 0xE8#8, 0xF8#8] then 2
    else 1)

/-- R325, R326, R330: the unimplemented marker stands at the plain entries 0xCB and the eleven illegal bytes and nowhere
else, in either table. -/
def Obligations.UnimplementedEntriesAreTheTwelve : Prop :=
  ∀ (op : Byte) (p : Bool), decode op p = none ↔
    p = false ∧ op ∈ [0xCB#8, 0xD3#8, 0xDB#8, 0xDD#8, 0xE3#8, 0xE4#8, 0xEB#8, 0xEC#8, 0xED#8, 0xF4#8, 0xFC#8, 0xFD#8]

/-- R331: over any `ADMITTED` the decoder answers the instruction of a defined entry exactly where the entry is admitted,
and the unimplemented marker for every other entry. That this machine's decoder is the one over the default, every defined
entry, is the model's choice (notes/assumptions/11.md). -/
def Obligations.DecoderAdmitsExactlyTheAdmitted : Prop :=
  (∀ (admitted : Bool → Byte → Bool) (op : Byte) (p : Bool),
    (∀ i, decodeAdmitting admitted op p = some i ↔
      admitted p op = true ∧ i.row.opcode = op ∧ i.row.prefixed = p) ∧
    (decodeAdmitting admitted op p = none ↔ admitted p op = false ∨ decodeForm op p = none)) ∧
  ∀ (op : Byte) (p : Bool), Config.admitted p op = true ∧ decode op p = decodeAdmitting Config.admitted op p

/-! ### 8-bit arithmetic and logic -/

/-- R510 to R512 (ADD) and R515 to R517 (ADC), in the forms r, (HL) and d8: the encoding, the sum, the four flags, the
next pc, and that nothing else changes. -/
def Obligations.AddAndAdcSetAccumulatorAndFlags : Prop :=
  (∀ k : Fin 8,
    decode (BitVec.ofNat 8 (0x80 + k.val)) false = some (Form.aluR8 .add (R8.ofCode k.val)).instr ∧
    decode (BitVec.ofNat 8 (0x88 + k.val)) false = some (Form.aluR8 .adc (R8.ofCode k.val)).instr) ∧
  decode 0xC6#8 false = some (Form.aluD8 .add).instr ∧ decode 0xCE#8 false = some (Form.aluD8 .adc).instr ∧
  ∀ (s : State) (withCarry : Bool),
    let op := if withCarry then AluOp.adc else AluOp.add
    let c := if withCarry then s.f.c.toNat else 0
    let after := fun (v : Byte) (len : Word) =>
      { s with
        a := BitVec.ofNat 8 (s.a.toNat + v.toNat + c)
        f := ⟨decide ((s.a.toNat + v.toNat + c) % 256 = 0), false,
          decide (s.a.toNat % 16 + v.toNat % 16 + c > 0xF), decide (s.a.toNat + v.toNat + c > 0xFF)⟩
        pc := s.pc + len }
    (∀ r : R8, exec (Form.aluR8 op r).instr s = .next (after (s.getR8 r) 1)) ∧
    exec (Form.aluD8 op).instr s = .next (after (s.readByte (s.pc + 1)) 2)

/-- R520 to R522 (SUB), R525 to R527 (SBC) and R545 to R547 (CP), in the forms r, (HL) and d8: the encoding, the
difference (not written by CP), the four flags, the next pc, and that nothing else changes. -/
def Obligations.SubSbcAndCpSetAccumulatorAndFlags : Prop :=
  (∀ k : Fin 8,
    decode (BitVec.ofNat 8 (0x90 + k.val)) false = some (Form.aluR8 .sub (R8.ofCode k.val)).instr ∧
    decode (BitVec.ofNat 8 (0x98 + k.val)) false = some (Form.aluR8 .sbc (R8.ofCode k.val)).instr ∧
    decode (BitVec.ofNat 8 (0xB8 + k.val)) false = some (Form.aluR8 .cp (R8.ofCode k.val)).instr) ∧
  decode 0xD6#8 false = some (Form.aluD8 .sub).instr ∧ decode 0xDE#8 false = some (Form.aluD8 .sbc).instr ∧
  decode 0xFE#8 false = some (Form.aluD8 .cp).instr ∧
  ∀ (s : State) (op : AluOp), op = .sub ∨ op = .sbc ∨ op = .cp →
    let c := if op = .sbc then s.f.c.toNat else 0
    let after := fun (v : Byte) (len : Word) =>
      let d : Int := (s.a.toNat : Int) - v.toNat - c
      { s with
        a := if op = .cp then s.a else BitVec.ofInt 8 d
        f := ⟨decide (d % 256 = 0), true, decide (s.a.toNat % 16 < v.toNat % 16 + c), decide (s.a.toNat < v.toNat + c)⟩
        pc := s.pc + len }
    (∀ r : R8, exec (Form.aluR8 op r).instr s = .next (after (s.getR8 r) 1)) ∧
    exec (Form.aluD8 op).instr s = .next (after (s.readByte (s.pc + 1)) 2)

/-- R530 to R532 (AND), R535 to R537 (XOR) and R540 to R542 (OR), in the forms r, (HL) and d8: the encoding, the result
bit by bit, Z from it, N = 0, H = 1 for AND alone, C = 0, the next pc, and that nothing else changes. -/
def Obligations.AndXorAndOrSetAccumulatorAndFlags : Prop :=
  (∀ k : Fin 8,
    decode (BitVec.ofNat 8 (0xA0 + k.val)) false = some (Form.aluR8 .and (R8.ofCode k.val)).instr ∧
    decode (BitVec.ofNat 8 (0xA8 + k.val)) false = some (Form.aluR8 .xor (R8.ofCode k.val)).instr ∧
    decode (BitVec.ofNat 8 (0xB0 + k.val)) false = some (Form.aluR8 .or (R8.ofCode k.val)).instr) ∧
  decode 0xE6#8 false = some (Form.aluD8 .and).instr ∧ decode 0xEE#8 false = some (Form.aluD8 .xor).instr ∧
  decode 0xF6#8 false = some (Form.aluD8 .or).instr ∧
  ∀ (s : State) (op : AluOp) (combine : Bool → Bool → Bool),
    (op = .and ∧ combine = and) ∨ (op = .xor ∧ combine = xor) ∨ (op = .or ∧ combine = or) →
    let leaves := fun (v : Byte) (len : Word) (t : State) =>
      (∀ k, k < 8 → t.a.getLsbD k = combine (s.a.getLsbD k) (v.getLsbD k)) ∧
      t = { s with
        a := t.a
        f := ⟨decide (t.a = 0#8), false, decide (op = .and), false⟩
        pc := s.pc + len }
    (∀ r : R8, ∃ t, exec (Form.aluR8 op r).instr s = .next t ∧ leaves (s.getR8 r) 1 t) ∧
    (∃ t, exec (Form.aluD8 op).instr s = .next t ∧ leaves (s.readByte (s.pc + 1)) 2 t)

/-- R550, R551 (INC r, INC (HL)) and R555, R556 (DEC r, DEC (HL)): the encoding, the operand one more or one less modulo
256, Z, N, H from it with C kept, and the frame: only that operand, the flags and pc change; the (HL) forms store to
the byte at HL and nowhere else. -/
def Obligations.IncAndDecOfAByte : Prop :=
  (∀ k : Fin 8,
    decode (BitVec.ofNat 8 (0x04 + 8 * k.val)) false = some (Form.incR8 (R8.ofCode k.val)).instr ∧
    decode (BitVec.ofNat 8 (0x05 + 8 * k.val)) false = some (Form.decR8 (R8.ofCode k.val)).instr) ∧
  ∀ (s : State) (r : R8),
    (∃ t, exec (Form.incR8 r).instr s = .next t ∧
      wroteR8 r (BitVec.ofNat 8 ((s.getR8 r).toNat + 1)) s t ∧
      t.f = ⟨decide ((s.getR8 r).toNat = 255), false, decide ((s.getR8 r).toNat % 16 = 15), s.f.c⟩ ∧
      t.pc = s.pc + 1 ∧ t.sp = s.sp ∧ sameControl s t) ∧
    (∃ t, exec (Form.decR8 r).instr s = .next t ∧
      wroteR8 r (BitVec.ofInt 8 ((s.getR8 r).toNat - 1)) s t ∧
      t.f = ⟨decide ((s.getR8 r).toNat = 1), true, decide ((s.getR8 r).toNat % 16 = 0), s.f.c⟩ ∧
      t.pc = s.pc + 1 ∧ t.sp = s.sp ∧ sameControl s t)

/-- R560: DAA, its encoding and its result over the integers for every A and every N, H, C, and that nothing else
changes. -/
def Obligations.DaaFollowsItsAdjustmentTable : Prop :=
  decode 0x27#8 false = some .daa ∧
  ∀ s : State,
    let up : Bool := s.f.c || decide (s.a.toNat > 0x99)
    let sum : Nat :=
      s.a.toNat + (if up then 0x60 else 0) + (if s.f.h = true ∨ s.a.toNat % 16 > 9 then 0x06 else 0)
    let difference : Int := s.a.toNat - (if s.f.c then 0x60 else 0) - (if s.f.h then 0x06 else 0)
    let res : Byte := if s.f.n then BitVec.ofInt 8 difference else BitVec.ofNat 8 sum
    exec .daa s = .next { s with
      a := res
      f := ⟨decide (res = 0#8), s.f.n, false, if s.f.n then s.f.c else up⟩
      pc := s.pc + 1 }

/-- What DAA is for (R560, R512, R522): adding or subtracting two numbers below 100 in decimal digits and then DAA gives
the digits of the sum or difference modulo 100, with C the decimal carry or borrow and Z a zero result. -/
def Obligations.DaaMakesDecimalArithmetic : Prop :=
  ∀ (s : State) (x y : Nat), x < 100 → y < 100 → s.a = bcdByte x → s.readByte (s.pc + 1) = bcdByte y →
    (∃ t u, exec .add_A_d8 s = .next t ∧ exec .daa t = .next u ∧
      u.a = bcdByte ((x + y) % 100) ∧ u.f.c = decide (100 ≤ x + y) ∧ u.f.z = decide ((x + y) % 100 = 0)) ∧
    (∃ t u, exec .sub_A_d8 s = .next t ∧ exec .daa t = .next u ∧
      u.a = bcdByte ((x + 100 - y) % 100) ∧ u.f.c = decide (x < y) ∧ u.f.z = decide (x = y))

/-- R565, R570, R575: CPL, SCF and CCF, their encodings, the flags each writes and keeps, and that nothing else
changes. -/
def Obligations.CplScfAndCcf : Prop :=
  decode 0x2F#8 false = some .cpl ∧ decode 0x37#8 false = some .scf ∧ decode 0x3F#8 false = some .ccf ∧
  ∀ s : State,
    exec .cpl s = .next { s with
      a := BitVec.ofNat 8 (255 - s.a.toNat), f := ⟨s.f.z, true, true, s.f.c⟩, pc := s.pc + 1 } ∧
    exec .scf s = .next { s with f := ⟨s.f.z, false, false, true⟩, pc := s.pc + 1 } ∧
    exec .ccf s = .next { s with f := ⟨s.f.z, false, false, !s.f.c⟩, pc := s.pc + 1 }

/-! ### 16-bit arithmetic -/

/-- R600, R610, R620: ADD HL,rr, INC rr and DEC rr: the encodings; the sum modulo 65536 with N = 0, H and C the carries
out of bits 11 and 15 and Z kept; the pair one more or one less with no flag written; and that nothing else changes. -/
def Obligations.SixteenBitAddIncAndDec : Prop :=
  (∀ k : Fin 4,
    decode (BitVec.ofNat 8 (0x09 + 16 * k.val)) false = some (Form.addHLR16 (R16.ofCode k.val)).instr ∧
    decode (BitVec.ofNat 8 (0x03 + 16 * k.val)) false = some (Form.incR16 (R16.ofCode k.val)).instr ∧
    decode (BitVec.ofNat 8 (0x0B + 16 * k.val)) false = some (Form.decR16 (R16.ofCode k.val)).instr) ∧
  ∀ (s : State) (rr : R16),
    let v := (s.getR16 rr).toNat
    (∃ t, exec (Form.addHLR16 rr).instr s = .next t ∧
      t.hl = BitVec.ofNat 16 (s.hl.toNat + v) ∧
      t = { s with
        h := t.h, l := t.l, pc := s.pc + 1
        f := ⟨s.f.z, false, decide (s.hl.toNat % 0x1000 + v % 0x1000 > 0xFFF), decide (s.hl.toNat + v > 0xFFFF)⟩ }) ∧
    (∃ t, exec (Form.incR16 rr).instr s = .next t ∧
      wroteR16 rr (BitVec.ofNat 16 (v + 1)) s t ∧ t.f = s.f ∧ t.pc = s.pc + 1 ∧ sameControl s t) ∧
    (∃ t, exec (Form.decR16 rr).instr s = .next t ∧
      wroteR16 rr (BitVec.ofInt 16 (v - 1)) s t ∧ t.f = s.f ∧ t.pc = s.pc + 1 ∧ sameControl s t)

/-- R630, R930: ADD SP,e8 and LD HL,SP+e8: the encodings; SP plus the signed byte modulo 65536; Z = N = 0 and H, C the
carries out of bits 3 and 7 of the unsigned addition to SP's low byte; and that nothing else changes (SP itself, in
LD HL,SP+e8). -/
def Obligations.StackPointerPlusSignedByte : Prop :=
  decode 0xE8#8 false = some .add_SP_e8 ∧ decode 0xF8#8 false = some .ld_HL_SPe8 ∧
  ∀ s : State,
    let u := s.readByte (s.pc + 1)
    let sum := BitVec.ofInt 16 (s.sp.toNat + u.toInt)
    let f : Flags :=
      ⟨false, false, decide (s.sp.toNat % 16 + u.toNat % 16 > 0xF), decide (s.sp.toNat % 256 + u.toNat > 0xFF)⟩
    exec .add_SP_e8 s = .next { s with sp := sum, f := f, pc := s.pc + 2 } ∧
    ∃ t, exec .ld_HL_SPe8 s = .next t ∧ t.hl = sum ∧ t = { s with h := t.h, l := t.l, f := f, pc := s.pc + 2 }

/-! ### Control transfer -/

/-- R425: the conditions are exact per name, and Always holds. -/
def Obligations.ConditionsAreExactPerName : Prop :=
  ∀ f : Flags,
    jumpTestHolds (.cond .nz) f = !f.z ∧ jumpTestHolds (.cond .z) f = f.z ∧
    jumpTestHolds (.cond .nc) f = !f.c ∧ jumpTestHolds (.cond .c) f = f.c ∧ jumpTestHolds .always f = true

/-- R700, R701, R710: JP cc,a16, JP a16 and JP HL: the encodings; taken, next pc is the little-endian word after the opcode;
not taken, pc + 3 wrapping; JP HL goes to HL's value; and that nothing but pc changes. -/
def Obligations.AbsoluteJumps : Prop :=
  (∀ k : Fin 4, decode (BitVec.ofNat 8 (0xC2 + 8 * k.val)) false = some (Form.jp (.cond (Cond.ofCode k.val))).instr) ∧
  decode 0xC3#8 false = some (Form.jp .always).instr ∧ decode 0xE9#8 false = some .jp_HL ∧
  ∀ s : State,
    (∀ t : JumpTest, exec (Form.jp t).instr s = .next { s with
      pc := if jumpTestHolds t s.f
        then BitVec.ofNat 16 ((s.readByte (s.pc + 2)).toNat * 256 + (s.readByte (s.pc + 1)).toNat)
        else BitVec.ofNat 16 (s.pc.toNat + 3) }) ∧
    exec .jp_HL s = .next { s with pc := s.hl }

/-- R720, R721: JR cc,e8 and JR e8: the encodings; taken, the signed offset counts from the address after the
instruction and the target wraps; not taken, pc + 2; and that nothing but pc changes. -/
def Obligations.RelativeJumps : Prop :=
  (∀ k : Fin 4, decode (BitVec.ofNat 8 (0x20 + 8 * k.val)) false = some (Form.jr (.cond (Cond.ofCode k.val))).instr) ∧
  decode 0x18#8 false = some (Form.jr .always).instr ∧
  ∀ (s : State) (t : JumpTest), exec (Form.jr t).instr s = .next { s with
    pc := if jumpTestHolds t s.f then BitVec.ofInt 16 (s.pc.toNat + 2 + (s.readByte (s.pc + 1)).toInt)
      else BitVec.ofNat 16 (s.pc.toNat + 2) }

/-- R730, R731, R760: CALL cc,a16, CALL a16 and RST n: the encodings; taken, the address after the instruction is pushed
and next pc is the target (n * 8 for RST); a CALL not taken changes pc alone; and the frame: SP, pc and the two bytes
pushed. -/
def Obligations.CallsAndRestarts : Prop :=
  (∀ k : Fin 4, decode (BitVec.ofNat 8 (0xC4 + 8 * k.val)) false = some (Form.call (.cond (Cond.ofCode k.val))).instr) ∧
  decode 0xCD#8 false = some (Form.call .always).instr ∧
  (∀ n : Fin 8, decode (BitVec.ofNat 8 (0xC7 + 8 * n.val)) false = some (Form.rst n).instr) ∧
  ∀ s : State,
    (∀ t : JumpTest, jumpTestHolds t s.f = true → ∃ u, exec (Form.call t).instr s = .next u ∧
      pushedWord (BitVec.ofNat 16 (s.pc.toNat + 3)) s u ∧
      u.pc = BitVec.ofNat 16 ((s.readByte (s.pc + 2)).toNat * 256 + (s.readByte (s.pc + 1)).toNat) ∧
      u = { s with sp := u.sp, pc := u.pc, mem := u.mem }) ∧
    (∀ t : JumpTest, jumpTestHolds t s.f = false → exec (Form.call t).instr s = .next { s with pc := s.pc + 3 }) ∧
    (∀ n : Fin 8, ∃ u, exec (Form.rst n).instr s = .next u ∧
      pushedWord (BitVec.ofNat 16 (s.pc.toNat + 1)) s u ∧ u.pc = BitVec.ofNat 16 (n.val * 8) ∧
      u = { s with sp := u.sp, pc := u.pc, mem := u.mem })

/-- R740, R741, R750: RET cc, RET and RETI: the encodings; taken, next pc is the word at SP, low byte first, and SP is two
higher; RETI also sets IME at once; a RET cc not taken changes pc alone; and that nothing else changes. -/
def Obligations.Returns : Prop :=
  (∀ k : Fin 4, decode (BitVec.ofNat 8 (0xC0 + 8 * k.val)) false = some (Form.retCC (Cond.ofCode k.val)).instr) ∧
  decode 0xC9#8 false = some .ret ∧ decode 0xD9#8 false = some .reti ∧
  ∀ s : State,
    let popped := { s with
      sp := s.sp + 2
      pc := BitVec.ofNat 16 ((s.readByte (s.sp + 1)).toNat * 256 + (s.readByte s.sp).toNat) }
    (∀ cc : Cond, exec (Form.retCC cc).instr s =
      .next (if jumpTestHolds (.cond cc) s.f then popped else { s with pc := s.pc + 1 })) ∧
    exec .ret s = .next popped ∧ exec .reti s = .next { popped with ime := true }

/-! ### Loads and the stack -/

/-- R800 to R802: LD r,r', LD r,(HL) and LD (HL),r: the encodings (the slot of LD (HL),(HL) is HALT); the destination holds
the source's value of before; no flag; and the frame: only the destination and pc change, and LD (HL),r stores to the
byte at HL and nowhere else. -/
def Obligations.RegisterMoves : Prop :=
  (∀ y z : Fin 8, decode (BitVec.ofNat 8 (0x40 + 8 * y.val + z.val)) false =
    some (if y = 6 ∧ z = 6 then .halt else (Form.ldR8R8 (R8.ofCode y.val) (R8.ofCode z.val)).instr)) ∧
  ∀ (s : State) (dst src : R8), (Form.ldR8R8 dst src).wf = true →
    ∃ t, exec (Form.ldR8R8 dst src).instr s = .next t ∧
      wroteR8 dst (s.getR8 src) s t ∧ t.f = s.f ∧ t.pc = s.pc + 1 ∧ t.sp = s.sp ∧ sameControl s t

/-- R805, R806: LD r,d8 and LD (HL),d8: the encodings; the destination holds the byte at pc + 1 of before the store; no
flag; and the frame. -/
def Obligations.ImmediateByteLoads : Prop :=
  (∀ y : Fin 8, decode (BitVec.ofNat 8 (0x06 + 8 * y.val)) false = some (Form.ldR8D8 (R8.ofCode y.val)).instr) ∧
  ∀ (s : State) (dst : R8), ∃ t, exec (Form.ldR8D8 dst).instr s = .next t ∧
    wroteR8 dst (s.readByte (s.pc + 1)) s t ∧ t.f = s.f ∧ t.pc = s.pc + 2 ∧ t.sp = s.sp ∧ sameControl s t

/-- R810 to R813 and R815 to R818: A from and to the byte at (BC), (DE), (HL+) and (HL-): the encodings; the address is the
pair's of before; a load's A holds the byte there; a store's byte there holds A and no other byte changes; HL is then one
more or one less for (HL+) and (HL-); no flag; and that nothing else changes. -/
def Obligations.AccumulatorThroughPairs : Prop :=
  decode 0x0A#8 false = some .ld_A_atBC ∧ decode 0x1A#8 false = some .ld_A_atDE ∧
  decode 0x2A#8 false = some .ld_A_atHLinc ∧ decode 0x3A#8 false = some .ld_A_atHLdec ∧
  decode 0x02#8 false = some .ld_atBC_A ∧ decode 0x12#8 false = some .ld_atDE_A ∧
  decode 0x22#8 false = some .ld_atHLinc_A ∧ decode 0x32#8 false = some .ld_atHLdec_A ∧
  ∀ s : State,
    exec .ld_A_atBC s = .next { s with a := s.readByte s.bc, pc := s.pc + 1 } ∧
    exec .ld_A_atDE s = .next { s with a := s.readByte s.de, pc := s.pc + 1 } ∧
    (∃ t, exec .ld_A_atHLinc s = .next t ∧ t.hl = BitVec.ofNat 16 (s.hl.toNat + 1) ∧
      t = { s with a := s.readByte s.hl, h := t.h, l := t.l, pc := s.pc + 1 }) ∧
    (∃ t, exec .ld_A_atHLdec s = .next t ∧ t.hl = BitVec.ofInt 16 (s.hl.toNat - 1) ∧
      t = { s with a := s.readByte s.hl, h := t.h, l := t.l, pc := s.pc + 1 }) ∧
    (∃ t, exec .ld_atBC_A s = .next t ∧ t.readByte s.bc = s.a ∧ sameMemoryExcept [s.bc] s t ∧
      t = { s with mem := t.mem, pc := s.pc + 1 }) ∧
    (∃ t, exec .ld_atDE_A s = .next t ∧ t.readByte s.de = s.a ∧ sameMemoryExcept [s.de] s t ∧
      t = { s with mem := t.mem, pc := s.pc + 1 }) ∧
    (∃ t, exec .ld_atHLinc_A s = .next t ∧ t.readByte s.hl = s.a ∧ sameMemoryExcept [s.hl] s t ∧
      t.hl = BitVec.ofNat 16 (s.hl.toNat + 1) ∧ t = { s with mem := t.mem, h := t.h, l := t.l, pc := s.pc + 1 }) ∧
    (∃ t, exec .ld_atHLdec_A s = .next t ∧ t.readByte s.hl = s.a ∧ sameMemoryExcept [s.hl] s t ∧
      t.hl = BitVec.ofInt 16 (s.hl.toNat - 1) ∧ t = { s with mem := t.mem, h := t.h, l := t.l, pc := s.pc + 1 })

/-- R820, R821, R825 to R828: A from and to (a16), (0xFF00+a8) and (0xFF00+C): the encodings, the address, the byte moved,
no flag, and the frame. -/
def Obligations.AbsoluteAndHighPageMoves : Prop :=
  decode 0xFA#8 false = some .ld_A_atA16 ∧ decode 0xEA#8 false = some .ld_atA16_A ∧
  decode 0xF0#8 false = some .ldh_A_atA8 ∧ decode 0xE0#8 false = some .ldh_atA8_A ∧
  decode 0xF2#8 false = some .ldh_A_atC ∧ decode 0xE2#8 false = some .ldh_atC_A ∧
  ∀ s : State,
    let a16 := BitVec.ofNat 16 ((s.readByte (s.pc + 2)).toNat * 256 + (s.readByte (s.pc + 1)).toNat)
    let a8 := BitVec.ofNat 16 (0xFF00 + (s.readByte (s.pc + 1)).toNat)
    let atC := BitVec.ofNat 16 (0xFF00 + s.c.toNat)
    let loads := fun (i : Instr) (addr len : Word) =>
      exec i s = .next { s with a := s.readByte addr, pc := s.pc + len }
    let stores := fun (i : Instr) (addr len : Word) =>
      ∃ t, exec i s = .next t ∧ t.readByte addr = s.a ∧ sameMemoryExcept [addr] s t ∧
        t = { s with mem := t.mem, pc := s.pc + len }
    loads .ld_A_atA16 a16 3 ∧ stores .ld_atA16_A a16 3 ∧ loads .ldh_A_atA8 a8 2 ∧ stores .ldh_atA8_A a8 2 ∧
    loads .ldh_A_atC atC 1 ∧ stores .ldh_atC_A atC 1

/-- R900, R910, R920: LD rr,d16, LD (a16),SP and LD SP,HL: the encodings; the pair holds the little-endian immediate; SP is
stored low byte first at a16 and a16 + 1 (wrapping) and nowhere else; no flag; and the frame. -/
def Obligations.SixteenBitLoads : Prop :=
  (∀ k : Fin 4, decode (BitVec.ofNat 8 (0x01 + 16 * k.val)) false = some (Form.ldR16D16 (R16.ofCode k.val)).instr) ∧
  decode 0x08#8 false = some .ld_atA16_SP ∧ decode 0xF9#8 false = some .ld_SP_HL ∧
  ∀ s : State,
    let n16 := BitVec.ofNat 16 ((s.readByte (s.pc + 2)).toNat * 256 + (s.readByte (s.pc + 1)).toNat)
    (∀ rr : R16, ∃ t, exec (Form.ldR16D16 rr).instr s = .next t ∧
      wroteR16 rr n16 s t ∧ t.f = s.f ∧ t.pc = s.pc + 3 ∧ sameControl s t) ∧
    (∃ t, exec .ld_atA16_SP s = .next t ∧ t.readByte n16 = loByte s.sp ∧ t.readByte (n16 + 1) = hiByte s.sp ∧
      sameMemoryExcept [n16, n16 + 1] s t ∧ t = { s with mem := t.mem, pc := s.pc + 3 }) ∧
    exec .ld_SP_HL s = .next { s with sp := s.hl, pc := s.pc + 1 }

/-- R940, R941, R950, R951: PUSH and POP of BC, DE, HL and AF: the encodings; what PUSH leaves on the stack (AF with F's low
nibble zero); the pair POP leaves (F from bits 7 to 4 of the popped low byte) with SP two higher; and the frame. -/
def Obligations.PushAndPop : Prop :=
  (∀ k : Fin 4,
    decode (BitVec.ofNat 8 (0xC5 + 16 * k.val)) false = some (Form.push (R16stk.ofCode k.val)).instr ∧
    decode (BitVec.ofNat 8 (0xC1 + 16 * k.val)) false = some (Form.pop (R16stk.ofCode k.val)).instr) ∧
  ∀ s : State,
    let lo := s.readByte s.sp
    let hi := s.readByte (s.sp + 1)
    let popped := { s with sp := s.sp + 2, pc := s.pc + 1 }
    (∀ rr : R16stk, ∃ t, exec (Form.push rr).instr s = .next t ∧ pushedWord (s.getR16stk rr) s t ∧
      t = { s with sp := t.sp, mem := t.mem, pc := s.pc + 1 }) ∧
    (∃ t, exec .push_AF s = .next t ∧ t.readByte (s.sp - 1) = s.a ∧
      (t.readByte (s.sp - 2)).toNat =
        128 * s.f.z.toNat + 64 * s.f.n.toNat + 32 * s.f.h.toNat + 16 * s.f.c.toNat) ∧
    exec .pop_BC s = .next { popped with b := hi, c := lo } ∧
    exec .pop_DE s = .next { popped with d := hi, e := lo } ∧
    exec .pop_HL s = .next { popped with h := hi, l := lo } ∧
    exec .pop_AF s = .next { popped with a := hi, f := ⟨lo.getLsbD 7, lo.getLsbD 6, lo.getLsbD 5, lo.getLsbD 4⟩ }

/-- R430, R431: what push16 leaves, and that pop16 after push16(v) yields v and restores SP, whatever SP is. -/
def Obligations.PopAfterPushYieldsTheValue : Prop :=
  ∀ (s : State) (v : Word),
    pushedWord v s (s.push16 v) ∧ s.push16 v = { s with sp := (s.push16 v).sp, mem := (s.push16 v).mem } ∧
    s.pop16.1.toNat = (s.readByte (s.sp + 1)).toNat * 256 + (s.readByte s.sp).toNat ∧
    s.pop16.2 = { s with sp := s.sp + 2 } ∧
    (s.push16 v).pop16.1 = v ∧ (s.push16 v).pop16.2.sp = s.sp

/-! ### Rotates, shifts and bits -/

/-- R1000 to R1003: RLCA, RRCA, RLA and RRA: the encodings; each bit of A; Z = N = H = 0 whatever the result and C the bit
that left; and that nothing else changes. -/
def Obligations.AccumulatorRotates : Prop :=
  decode 0x07#8 false = some .rlca ∧ decode 0x0F#8 false = some .rrca ∧
  decode 0x17#8 false = some .rla ∧ decode 0x1F#8 false = some .rra ∧
  ∀ s : State,
    let leaves := fun (i : Instr) (out : Bool) (bits : Nat → Bool) =>
      ∃ t, exec i s = .next t ∧ (∀ k, k < 8 → t.a.getLsbD k = bits k) ∧
        t = { s with a := t.a, f := ⟨false, false, false, out⟩, pc := s.pc + 1 }
    leaves .rlca (s.a.getLsbD 7) (fun k => if k = 0 then s.a.getLsbD 7 else s.a.getLsbD (k - 1)) ∧
    leaves .rrca (s.a.getLsbD 0) (fun k => if k = 7 then s.a.getLsbD 0 else s.a.getLsbD (k + 1)) ∧
    leaves .rla (s.a.getLsbD 7) (fun k => if k = 0 then s.f.c else s.a.getLsbD (k - 1)) ∧
    leaves .rra (s.a.getLsbD 0) (fun k => if k = 7 then s.f.c else s.a.getLsbD (k + 1))

/-- R1010 to R1017: RLC, RRC, RL and RR on a register or (HL): the encodings; the bits of the result; Z from it, N = H = 0 and
C the bit that left; and the frame: the (HL) forms store to the byte at HL and nowhere else. -/
def Obligations.ByteRotates : Prop :=
  (∀ k : Fin 8,
    decode (BitVec.ofNat 8 k.val) true = some (Form.rot .rlc (R8.ofCode k.val)).instr ∧
    decode (BitVec.ofNat 8 (0x08 + k.val)) true = some (Form.rot .rrc (R8.ofCode k.val)).instr ∧
    decode (BitVec.ofNat 8 (0x10 + k.val)) true = some (Form.rot .rl (R8.ofCode k.val)).instr ∧
    decode (BitVec.ofNat 8 (0x18 + k.val)) true = some (Form.rot .rr (R8.ofCode k.val)).instr) ∧
  ∀ (s : State) (r : R8),
    let v := s.getR8 r
    let leaves := fun (op : RotOp) (out : Bool) (bits : Nat → Bool) =>
      ∃ t res, exec (Form.rot op r).instr s = .next t ∧ (∀ k, k < 8 → res.getLsbD k = bits k) ∧ wroteR8 r res s t ∧
        t.f = ⟨decide (res = 0#8), false, false, out⟩ ∧ t.pc = s.pc + 2 ∧ t.sp = s.sp ∧ sameControl s t
    leaves .rlc (v.getLsbD 7) (fun k => if k = 0 then v.getLsbD 7 else v.getLsbD (k - 1)) ∧
    leaves .rrc (v.getLsbD 0) (fun k => if k = 7 then v.getLsbD 0 else v.getLsbD (k + 1)) ∧
    leaves .rl (v.getLsbD 7) (fun k => if k = 0 then s.f.c else v.getLsbD (k - 1)) ∧
    leaves .rr (v.getLsbD 0) (fun k => if k = 7 then s.f.c else v.getLsbD (k + 1))

/-- R1018 to R1025: SLA, SRA, SWAP and SRL on a register or (HL): the encodings; the bits of the result; Z from it,
N = H = 0 and C the bit that left (0 for SWAP); and the frame. -/
def Obligations.ByteShiftsAndSwap : Prop :=
  (∀ k : Fin 8,
    decode (BitVec.ofNat 8 (0x20 + k.val)) true = some (Form.rot .sla (R8.ofCode k.val)).instr ∧
    decode (BitVec.ofNat 8 (0x28 + k.val)) true = some (Form.rot .sra (R8.ofCode k.val)).instr ∧
    decode (BitVec.ofNat 8 (0x30 + k.val)) true = some (Form.rot .swap (R8.ofCode k.val)).instr ∧
    decode (BitVec.ofNat 8 (0x38 + k.val)) true = some (Form.rot .srl (R8.ofCode k.val)).instr) ∧
  ∀ (s : State) (r : R8),
    let v := s.getR8 r
    let leaves := fun (op : RotOp) (out : Bool) (bits : Nat → Bool) =>
      ∃ t res, exec (Form.rot op r).instr s = .next t ∧ (∀ k, k < 8 → res.getLsbD k = bits k) ∧ wroteR8 r res s t ∧
        t.f = ⟨decide (res = 0#8), false, false, out⟩ ∧ t.pc = s.pc + 2 ∧ t.sp = s.sp ∧ sameControl s t
    leaves .sla (v.getLsbD 7) (fun k => if k = 0 then false else v.getLsbD (k - 1)) ∧
    leaves .sra (v.getLsbD 0) (fun k => if k = 7 then v.getLsbD 7 else v.getLsbD (k + 1)) ∧
    leaves .swap false (fun k => if k < 4 then v.getLsbD (k + 4) else v.getLsbD (k - 4)) ∧
    leaves .srl (v.getLsbD 0) (fun k => if k = 7 then false else v.getLsbD (k + 1))

/-- R1030 to R1035: BIT, RES and SET on a register or (HL): the encodings; BIT's Z the complement of the bit, N = 0, H = 1 and
C kept, with nothing else but pc changed; RES and SET leave bit b of the operand 0 or 1 and its other bits as before, write
no flag, and change nothing else (the (HL) forms store to the byte at HL and nowhere else). -/
def Obligations.BitTestsResetsAndSets : Prop :=
  (∀ b k : Fin 8,
    decode (BitVec.ofNat 8 (0x40 + 8 * b.val + k.val)) true = some (Form.testBit b (R8.ofCode k.val)).instr ∧
    decode (BitVec.ofNat 8 (0x80 + 8 * b.val + k.val)) true = some (Form.resetBit b (R8.ofCode k.val)).instr ∧
    decode (BitVec.ofNat 8 (0xC0 + 8 * b.val + k.val)) true = some (Form.setBit b (R8.ofCode k.val)).instr) ∧
  ∀ (s : State) (b : Fin 8) (r : R8),
    let leaves := fun (i : Instr) (bit : Bool) =>
      ∃ t res, exec i s = .next t ∧
        (∀ k, k < 8 → res.getLsbD k = if k = b.val then bit else (s.getR8 r).getLsbD k) ∧ wroteR8 r res s t ∧
        t.f = s.f ∧ t.pc = s.pc + 2 ∧ t.sp = s.sp ∧ sameControl s t
    exec (Form.testBit b r).instr s = .next { s with
      f := ⟨!(s.getR8 r).getLsbD b.val, false, true, s.f.c⟩, pc := s.pc + 2 } ∧
    leaves (Form.resetBit b r).instr false ∧ leaves (Form.setBit b r).instr true

/-! ### System instructions -/

/-- R1100, R1110, R1120, R1130, R1140: NOP, HALT in its four cases over IME, ime_pending and the irq_pending line, STOP
(whatever its second byte), DI and EI: the encodings, the effect, and that nothing else changes. -/
def Obligations.SystemInstructions : Prop :=
  decode 0x00#8 false = some .nop ∧ decode 0x76#8 false = some .halt ∧ decode 0x10#8 false = some .stop ∧
  decode 0xF3#8 false = some .di ∧ decode 0xFB#8 false = some .ei ∧
  ∀ s : State,
    exec .nop s = .next { s with pc := s.pc + 1 } ∧
    (s.ime = true → exec .halt s = .next { s with mode := .halted, pc := s.pc + 1 }) ∧
    (s.ime = false → s.imePending = true → s.irqPending = true → exec .halt s = .next s) ∧
    (s.ime = false → s.imePending = false → s.irqPending = true →
      exec .halt s = .next { s with haltBug := true, pc := s.pc + 1 }) ∧
    (s.ime = false → s.irqPending = false → exec .halt s = .next { s with mode := .halted, pc := s.pc + 1 }) ∧
    exec .stop s = .next { s with mode := .stopped, pc := s.pc + 2 } ∧
    exec .di s = .next { s with ime := false, imePending := false, pc := s.pc + 1 } ∧
    exec .ei s = .next { s with imePending := true, pc := s.pc + 1 }

/-! ### Over all instructions -/

/-- R1202: an instruction that decoded always completes; from every state, and over any bus, its meaning answers a next
state. With it, what no instruction changes (the line and the embedder's calls), and the only instructions that touch IME,
ime_pending, the mode and the HALT bug. -/
def Obligations.EveryInstructionCompletes : Prop :=
  ∀ (i : Instr) (s : State),
    let keeps := fun (t : State) =>
      t.irqPending = s.irqPending ∧ t.calls = s.calls ∧
      t.ime = (if i = .reti then true else if i = .di then false else s.ime) ∧
      t.imePending = (if i = .ei then true else if i = .di then false else s.imePending) ∧
      t.mode = (if i = .stop then .stopped
        else if i = .halt ∧ s.haltStays = false ∧ s.haltBugs = false then .halted else s.mode) ∧
      t.haltBug = (if i = .halt ∧ s.haltBugs = true then true else s.haltBug)
    (∃ t, exec i s = .next t ∧ keeps t) ∧ execOn Params.default i s = exec i s ∧
    ∀ P : Params, ∃ t, execOn P i s = .next t ∧ keeps t

/-- R122: untouched flags keep their value. Every instruction treats each flag as the flags column of its row says
(R334): unchanged, set to 0, set to 1, or computed. -/
def Obligations.FlagsFollowTheFlagsColumn : Prop :=
  ∀ (i : Instr) (s : State), ∃ t, exec i s = .next t ∧
    flagAllows i.row.z s.f.z t.f.z ∧ flagAllows i.row.n s.f.n t.f.n ∧
    flagAllows i.row.h s.f.h t.f.h ∧ flagAllows i.row.c s.f.c t.f.c

/-- R131: an instruction that does not transfer control advances PC by its length in bytes, prefix and operands included,
wrapping; the one exception is HALT right after EI with an interrupt pending (R1110). -/
def Obligations.NonTransfersAdvanceByTheirLength : Prop :=
  ∀ (i : Instr) (s : State), transfers i.form = false → (i = .halt → s.haltStays = false) →
    ∃ t, exec i s = .next t ∧ t.pc = BitVec.ofNat 16 (s.pc.toNat + i.length)

/-- The frame of memory over all instructions: every byte but those at the addresses the instruction stores to, computed
from the state it runs in, reads as before; an instruction with none stores nothing, and none touches the rest of the bus
state. -/
def Obligations.MemoryChangesOnlyWhereStored : Prop :=
  ∀ (i : Instr) (s : State), ∃ t, exec i s = .next t ∧ sameMemoryExcept (storeAddrs i.form s) s t ∧
    (storeAddrs i.form s = [] → t.mem = s.mem) ∧ t.device = s.device

/-- The frame of the registers over all instructions (R106, R134): an 8-bit register or SP that the instruction is not
listed as writing keeps its value. -/
def Obligations.RegistersChangeOnlyWhereWritten : Prop :=
  ∀ (i : Instr) (s : State), ∃ t, exec i s = .next t ∧
    (∀ r, r ≠ .hlInd → mayWrite i.form r = false → t.getR8 r = s.getR8 r) ∧
    (mayWriteSp i.form = false → t.sp = s.sp)

/-- The irq_pending line is read only by HALT (R1213): every other instruction does the same whatever its level. -/
def Obligations.OnlyHaltReadsTheInterruptLine : Prop :=
  ∀ (i : Instr) (s : State) (level : Bool), i ≠ .halt → ∃ t,
    exec i s = .next t ∧ exec i { s with irqPending := level } = .next { t with irqPending := level }

/-- N and H are read only by DAA and PUSH AF (R123): every other instruction does the same whatever they were, but that it
keeps the ones its row keeps. -/
def Obligations.OnlyDaaAndPushAFReadNAndH : Prop :=
  ∀ (i : Instr) (s : State) (n h : Bool), i ≠ .daa → i ≠ .push_AF → ∃ t u,
    exec i s = .next t ∧ exec i { s with f := { s.f with n := n, h := h } } = .next u ∧
    u = { t with f := { t.f with n := u.f.n, h := u.f.h } } ∧
    (i.row.n ≠ .keep → u.f.n = t.f.n) ∧ (i.row.h ≠ .keep → u.f.h = t.f.h)

/-! ### The step loop -/

/-- A step runs the decoded instruction (R410, R411, R412, R415, R416): in mode Running with no call waiting, if the byte
at PC, or after a 0xCB the byte after the base address, decodes to i, the step is `exec i` at the base address (one
less than PC under the HALT bug, which is cleared), committed, and then IME set if EI was pending and i is not DI. -/
def Obligations.StepRunsTheDecodedInstruction : Prop :=
  ∀ (s t : State) (i : Instr),
    let base := if s.haltBug then s.pc - 1 else s.pc
    s.mode = .running → s.calls = [] →
    (s.readByte s.pc ≠ 0xCB#8 → decode (s.readByte s.pc) false = some i) →
    (s.readByte s.pc = 0xCB#8 → decode (s.readByte (base + 1)) true = some i) →
    exec i { s with pc := base, haltBug := false } = .next t →
    step s = .next (if s.imePending = true ∧ i ≠ .di then { t with ime := true, imePending := false } else t)

/-- R1200, R1201, R1203, R418: in mode Running a `step` returns a decode failure exactly when the byte at PC is one of the
eleven illegal bytes. The report holds that byte, the address PC and not CB-prefixed, and only the mode, which holds the
report, changes. Over a smaller `ADMITTED` it is also every defined entry left out, of the CB table too, whose report holds
the byte after the prefix and that byte's address.
The model's choices: `ADMITTED` is every defined entry where no other is given (notes/assumptions/11.md), and the machine's
step is then a fault with that report (notes/assumptions/6.md). -/
def Obligations.DecodeFailureIsExactAndPrecise : Prop :=
  (∀ s : State, s.mode = .running → s.calls = [] →
    let illegal :=
      [0xD3#8, 0xDB#8, 0xDD#8, 0xE3#8, 0xE4#8, 0xEB#8, 0xEC#8, 0xED#8, 0xF4#8, 0xFC#8, 0xFD#8]
    let report : Report := ⟨s.readByte s.pc, s.pc, false⟩
    (s.readByte s.pc ∈ illegal →
      stepCall s.irqPending s = .next ({ s with mode := .failed report }, .decodeFailure report) ∧
      step s = .fault (.decodeFailure report)) ∧
    (s.readByte s.pc ∉ illegal → ∃ t, stepCall s.irqPending s = .next (t, .ok) ∧ step s = .next t)) ∧
  ∀ (admitted : Bool → Byte → Bool) (s : State), s.mode = .running → s.calls = [] →
    let P : Params := { bus := plainRam, admitted := admitted }
    let b0 := s.readByte s.pc
    let opaddr := (if s.haltBug then s.pc - 1 else s.pc) + 1
    let fails := fun (report : Report) =>
      stepCall s.irqPending s P = .next ({ s with mode := .failed report }, .decodeFailure report) ∧
      stepOn P s = .fault (.decodeFailure report)
    let runs := ∃ t, stepCall s.irqPending s P = .next (t, .ok) ∧ stepOn P s = .next t
    (b0 ≠ 0xCB#8 →
      (decode b0 false = none ∨ admitted false b0 = false → fails ⟨b0, s.pc, false⟩) ∧
      (decode b0 false ≠ none → admitted false b0 = true → runs)) ∧
    (b0 = 0xCB#8 →
      (admitted true (s.readByte opaddr) = false → fails ⟨s.readByte opaddr, opaddr, true⟩) ∧
      (admitted true (s.readByte opaddr) = true → runs))

/-- R414, R1203, R1212: a step in mode Halted or Stopped changes nothing and says so; in mode Failed it returns the stored
report and changes nothing. Wake makes a Halted or Stopped core Running, changing nothing else, and in the other modes
changes nothing; interrupt entry leaves Halted when IME is set and never Stopped; and no call but reset leaves Failed.
A run ends normally at the step that returns `Stopped`, or `Halted` with no interrupt or wake still to come (R1271).
The model's choices: a direct execute of HALT or STOP does not leave Failed either (notes/assumptions/9.md), the machine's
step in Failed is a fault (notes/assumptions/6.md), and the calls to come are those the state holds
(notes/assumptions/2.md). -/
def Obligations.ModesThatDoNothing : Prop :=
  (∀ s : State, s.mode = .halted → stepCall s.irqPending s = .next (s, .halted)) ∧
  (∀ s : State, s.mode = .stopped → stepCall s.irqPending s = .next (s, .stopped)) ∧
  (∀ (s : State) (r : Report), s.mode = .failed r →
    stepCall s.irqPending s = .next (s, .decodeFailure r) ∧ (s.calls = [] → step s = .fault (.decodeFailure r))) ∧
  (∀ s : State, s.mode = .halted ∨ s.mode = .stopped → s.wake = ({ s with mode := .running }, .woken)) ∧
  (∀ s : State, s.mode ≠ .halted → s.mode ≠ .stopped → s.wake = (s, .notWoken)) ∧
  (∀ (s : State) (k : Fin 5), s.mode = .halted → s.ime = true →
    (s.interrupt k).1.mode = .running ∧ (s.interrupt k).2 = .taken) ∧
  (∀ (s : State) (k : Fin 5), s.mode = .stopped → s.interrupt k = (s, .notTaken)) ∧
  (∀ (s : State) (r : Report) (c : HostCall), s.mode = .failed r → (∀ pc regs, c ≠ .reset pc regs) →
    ∃ t reply, hostCall c s = .next (t, reply) ∧ t.mode = .failed r) ∧
  (∀ s : State, s.calls = [] → (s.endsNow = true ↔ s.mode = .stopped ∨ s.mode = .halted)) ∧
  (∀ (s : State) (irq : Bool) (rest : List HostCall), s.calls = .step irq :: rest →
    (s.endsNow = true ↔
      s.mode = .stopped ∨ (s.mode = .halted ∧ .wake ∉ rest ∧ ∀ k, .interrupt k ∉ rest)))

/-- R415: the EI delay over two steps. A step that runs EI with no earlier EI pending leaves IME as it was and ime_pending 1;
the next step, running whatever is fetched (a second EI and CB rows among them), leaves IME 1 and ime_pending 0, unless it
runs DI, which leaves both 0. -/
def Obligations.EiTakesEffectAfterTheNextInstruction : Prop :=
  ∀ s : State,
    s.mode = .running → s.calls = [] → s.haltBug = false → s.imePending = false → s.readByte s.pc = 0xFB#8 →
    ∃ t, step s = .next t ∧ t = { s with imePending := true, pc := s.pc + 1 } ∧
      ∀ i, decode t.fetch.opcode t.fetch.isPrefixed = some i →
        ∃ u, step t = .next u ∧ u.ime = decide (i ≠ .di) ∧ u.imePending = false

/-- R416, R1322: the HALT bug, over two steps. The first runs a one-byte instruction that is no transfer and not HALT at base
PC - 1, so PC is unchanged and the bug is cleared; unless the instruction stored over its own byte, the second runs it
again, at base PC. Each step ends with the EI delay (R415). -/
def Obligations.HaltBugRunsAOneByteInstructionTwice : Prop :=
  ∀ (s : State) (i : Instr),
    s.mode = .running → s.calls = [] → s.haltBug = true → s.readByte s.pc ≠ 0xCB#8 →
    decode (s.readByte s.pc) false = some i → i.length = 1 → transfers i.form = false → i ≠ .halt →
    let delayed := fun (before after : State) =>
      if before.imePending = true ∧ i ≠ .di then { after with ime := true, imePending := false } else after
    ∃ e t, exec i { s with pc := s.pc - 1, haltBug := false } = .next e ∧ t = delayed s e ∧ step s = .next t ∧
      t.pc = s.pc ∧ t.haltBug = false ∧ t.mode = .running ∧ t.calls = [] ∧
      (s.pc ∉ storeAddrs i.form { s with pc := s.pc - 1 } →
        t.readByte t.pc = s.readByte s.pc ∧ ∃ u, exec i t = .next u ∧ step t = .next (delayed t u))

/-! ### Interrupts, the embedder and reset -/

/-- R1210, R1211: interrupt entry. With IME 0, or in mode Stopped or Failed, nothing changes; otherwise IME, ime_pending and
halt_bug are cleared, the mode is Running, PC is pushed and PC becomes the vector of source k, and nothing else
changes. -/
def Obligations.InterruptEntry : Prop :=
  ∀ (s : State) (k : Fin 5),
    (s.ime = false ∨ (s.mode ≠ .running ∧ s.mode ≠ .halted) → s.interrupt k = (s, .notTaken)) ∧
    (s.ime = true → s.mode = .running ∨ s.mode = .halted →
      ∃ t, s.interrupt k = (t, .taken) ∧ pushedWord s.pc s t ∧ t.pc = BitVec.ofNat 16 (0x0040 + 8 * k.val) ∧
        t = { s with
          sp := t.sp, mem := t.mem, pc := t.pc, ime := false, imePending := false, haltBug := false, mode := .running })

/-- R1216: return from an interrupt. From any state with SP and the two pushed bytes as entry left them, RETI goes back to
the interrupted address, restores SP and sets IME. -/
def Obligations.RetiUndoesInterruptEntry : Prop :=
  ∀ (s t u : State) (k : Fin 5), s.interrupt k = (t, .taken) → u.sp = t.sp →
    u.readByte t.sp = t.readByte t.sp → u.readByte (t.sp + 1) = t.readByte (t.sp + 1) →
    exec .reti u = .next { u with pc := s.pc, sp := s.sp, ime := true }

/-- R402, R401: `execute(instruction)` called directly is `exec` at base PC with irq_pending false; it returns next pc, does
not commit PC and does not apply the EI delay; mode Failed stays (notes/assumptions/9.md). -/
def Obligations.DirectExecuteDoesNotCommit : Prop :=
  ∀ (s : State) (i : Instr), ∃ t, exec i { s with irqPending := false } = .next t ∧
    ∃ u, hostCall (.execute i) s = .next (u, .nextPc t.pc) ∧
      u = { t with pc := s.pc, irqPending := s.irqPending, mode := u.mode } ∧
      (∀ r, s.mode = .failed r → u.mode = .failed r) ∧ ((∀ r, s.mode ≠ .failed r) → u.mode = t.mode)

/-- R1270, R102, R245: the embedder's operations. A step of the machine with a call waiting is that call, and with none it is
`step` with the line as it stands (the model's choice, notes/assumptions/2.md); each call is its operation; and an accessor
write sets its item and no other, and never mode or report. A `DecodeFailure` is the machine's fault (the model's choice,
notes/assumptions/6.md); every other reply is a next state. -/
def Obligations.EmbedderCallsAreTheirOperations : Prop :=
  (∀ (s : State) (c : HostCall) (rest : List HostCall), s.calls = c :: rest →
    step s = outcomeOf (hostCall c { s with calls := rest })) ∧
  (∀ s : State, s.calls = [] → step s = outcomeOf (stepCall s.irqPending s)) ∧
  (∀ (t : State) (reply : Reply), (∀ rep, reply ≠ .decodeFailure rep) → outcomeOf (.next (t, reply)) = .next t) ∧
  (∀ (t : State) (rep : Report), outcomeOf (.next (t, .decodeFailure rep)) = .fault (.decodeFailure rep)) ∧
  ∀ s : State,
    (∀ irq, hostCall (.step irq) s = stepCall irq s) ∧
    (∀ k, hostCall (.interrupt k) s = .next (s.interrupt k)) ∧
    hostCall .wake s = .next s.wake ∧
    (∀ item, hostCall (.write item) s = .next (s.writeItem item, .done)) ∧
    (∀ addr v, hostCall (.busWrite addr v) s = .next (s.writeByte addr v, .done)) ∧
    (∀ b, hostCall (.busChange b) s = .next ({ s with mem := b.mem, device := b.device }, .done)) ∧
    (∀ i, hostCall (.execute i) s = executeCall i s) ∧
    (∀ pc regs, hostCall (.reset pc regs) s = .next (s.resetCore pc regs, .done)) ∧
    (∀ item, (s.writeItem item).mode = s.mode ∧ (s.writeItem item).report = s.report ∧
      (s.writeItem item).mem = s.mem ∧ (s.writeItem item).device = s.device) ∧
    ∀ (v : Byte) (w : Word) (fl : Flags) (x : Bool),
      s.writeItem (.a v) = { s with a := v } ∧ s.writeItem (.f fl) = { s with f := fl } ∧
      s.writeItem (.b v) = { s with b := v } ∧ s.writeItem (.c v) = { s with c := v } ∧
      s.writeItem (.d v) = { s with d := v } ∧ s.writeItem (.e v) = { s with e := v } ∧
      s.writeItem (.h v) = { s with h := v } ∧ s.writeItem (.l v) = { s with l := v } ∧
      s.writeItem (.sp w) = { s with sp := w } ∧ s.writeItem (.pc w) = { s with pc := w } ∧
      s.writeItem (.ime x) = { s with ime := x } ∧ s.writeItem (.imePending x) = { s with imePending := x } ∧
      s.writeItem (.haltBug x) = { s with haltBug := x }

/-- R1214, R1215: a turn of the reference loop. With a source requested it enters the lowest-numbered one if IME and the
mode allow and clears that source's request alone, else wakes a halted core, and then steps with the line high; with none
requested it steps with the line low. -/
def Obligations.ReferenceLoopTurn : Prop :=
  ∀ (req : BitVec 5) (s : State),
    (req = 0#5 → referenceTurn req s = ([.step false], req)) ∧
    (∀ k : Fin 5, req.getLsbD k.val = true → (∀ j : Fin 5, j < k → req.getLsbD j.val = false) →
      let enters := s.ime = true ∧ (s.mode = .running ∨ s.mode = .halted)
      (enters → (referenceTurn req s).1 = [.interrupt k, .step true] ∧
        ∀ j : Fin 5, (referenceTurn req s).2.getLsbD j.val = (req.getLsbD j.val && decide (j ≠ k))) ∧
      (¬enters → s.mode = .halted → referenceTurn req s = ([.wake, .step true], req)) ∧
      (¬enters → s.mode ≠ .halted → referenceTurn req s = ([.step true], req)))

/-- R1300, R170, R1302: reset sets every core item, with PC and the registers its arguments, whatever the state was, mode
Failed included; it holds no report, does not touch the bus, and no interrupt can be entered right after. -/
def Obligations.ResetSetsEveryItem : Prop :=
  ∀ (s : State) (pc : Word) (r : ResetRegs), ∃ t, hostCall (.reset pc r) s = .next (t, .done) ∧
    t = { a := r.a, f := r.f, b := r.b, c := r.c, d := r.d, e := r.e, h := r.h, l := r.l, sp := r.sp, pc := pc,
          ime := false, imePending := false, mode := .running, haltBug := false,
          mem := s.mem, device := s.device, irqPending := s.irqPending, calls := s.calls } ∧
    t.report = none ∧ ∀ k : Fin 5, t.interrupt k = (t, .notTaken)

/-- The machine at power-on: the core as reset leaves it with the given `RESET_PC` and `RESET_REGS` (R1300, R170).
`State.reset` is that at `RESET_PC`'s default. The rest is the model's choice: zero registers (notes/assumptions/3.md),
memory with nothing listed, every address reading zero (4.md), nothing else behind the bus (5.md), the line low and no call
waiting (16.md). -/
def Obligations.StateAtPowerOn : Prop :=
  (∀ (s : State) (pc : Word) (r : ResetRegs), State.powerOn pc r =
    { s.resetCore pc r with mem := [], device := [], irqPending := false, calls := [] }) ∧
  State.reset = State.powerOn 0x0000#16 ResetRegs.zero ∧
  (∀ r, r ≠ .hlInd → State.reset.getR8 r = 0x00#8) ∧ State.reset.f = ⟨false, false, false, false⟩ ∧
  State.reset.sp = 0x0000#16 ∧ (∀ addr, State.reset.readByte addr = 0x00#8) ∧
  State.reset.ime = false ∧ State.reset.mode = .running

/-! ### State and memory -/

/-- R120, R121: the flags byte and its round trips; bits 3 to 0 read zero and are not stored. -/
def Obligations.FlagsByteRoundTrips : Prop :=
  (∀ f : Flags, f.toByte.toNat = 128 * f.z.toNat + 64 * f.n.toNat + 32 * f.h.toNat + 16 * f.c.toNat ∧
    Flags.ofByte f.toByte = f) ∧
  ∀ v : Byte, Flags.ofByte v = ⟨v.getLsbD 7, v.getLsbD 6, v.getLsbD 5, v.getLsbD 4⟩ ∧
    (Flags.ofByte v).toByte = v &&& 0xF0#8 ∧ Flags.ofByte (Flags.ofByte v).toByte = Flags.ofByte v

/-- R110 to R114: the pairs are views. Reading gives high * 256 + low; writing sets exactly the two halves; BC, DE and HL
round-trip, and AF does but for the low nibble. -/
def Obligations.PairViewsRoundTrip : Prop :=
  ∀ (s : State) (v : Word),
    s.bc.toNat = s.b.toNat * 256 + s.c.toNat ∧ s.de.toNat = s.d.toNat * 256 + s.e.toNat ∧
    s.hl.toNat = s.h.toNat * 256 + s.l.toNat ∧ s.af.toNat = s.a.toNat * 256 + s.f.toByte.toNat ∧
    s.setBC v = { s with b := hiByte v, c := loByte v } ∧ s.setDE v = { s with d := hiByte v, e := loByte v } ∧
    s.setHL v = { s with h := hiByte v, l := loByte v } ∧
    s.setAF v = { s with a := hiByte v, f := Flags.ofByte (loByte v) } ∧
    (hiByte v).toNat = v.toNat / 256 ∧ (loByte v).toNat = v.toNat % 256 ∧
    (s.setBC v).bc = v ∧ (s.setDE v).de = v ∧ (s.setHL v).hl = v ∧ (s.setAF v).af = v &&& 0xFFF0#16

/-- R420, R421: read8 and write8. Codes 0 to 5 and 7 are B, C, D, E, H, L and A; code 6 is the byte at address HL; a write
sets that operand and changes no other register and no other byte of memory. -/
def Obligations.ByteOperandsReadAndWrite : Prop :=
  ∀ s : State,
    (List.range 8).map (fun k => s.getR8 (R8.ofCode k)) = [s.b, s.c, s.d, s.e, s.h, s.l, s.readByte s.hl, s.a] ∧
    ∀ (r : R8) (v : Byte), wroteR8 r v s (s.setR8 r v) ∧ (s.setR8 r v).f = s.f ∧ (s.setR8 r v).sp = s.sp ∧
      (s.setR8 r v).pc = s.pc ∧ sameControl s (s.setR8 r v)

/-- R203, R204: plain RAM. A read after a write gives the byte written at its address and the byte of before at every other;
a read changes nothing, and a write nothing but memory. Over any bus an access is the bus's own: it gives what the bus
answers and changes the bus state, by a read too, as the bus says, and nothing else (R202, R223). -/
def Obligations.ReadsSeeTheLastWrite : Prop :=
  (∀ (s : State) (p q : Word) (v : Byte),
    (s.writeByte p v).readByte q = (if q = p then v else s.readByte q) ∧
    s.memRead p = (s.readByte p, s) ∧ s.writeByte p v = { s with mem := (s.writeByte p v).mem }) ∧
  ∀ (P : Params) (s : State) (p : Word) (v : Byte),
    let read := P.bus.read ⟨s.mem, s.device⟩ p
    let write := P.bus.write ⟨s.mem, s.device⟩ p v
    s.memRead p P = (read.1, { s with mem := read.2.mem, device := read.2.device }) ∧
    s.writeByte p v P = { s with mem := write.mem, device := write.device }

/-- The canonical form of memory is canonical (notes/assumptions/4.md): a write keeps it, and two memories in it that read
alike at every address are equal. -/
def Obligations.MemoryFormIsCanonical : Prop :=
  (∀ (s : State) (p : Word) (v : Byte), Memory.wf s.mem → Memory.wf (s.writeByte p v).mem) ∧
  (∀ m m' : List Host.Cell, Memory.wf m → Memory.wf m' → (∀ n, Memory.read m n = Memory.read m' n) → m = m')

/-- Every step keeps the invariant: memory stays in its canonical form; in Halted and Stopped neither EI's delay nor the HALT
bug waits; while the HALT bug waits interrupts are off; and the calls stay run calls (notes/assumptions/17.md). From every
state that has it, not only those of a run. -/
def Obligations.EveryStepKeepsTheInvariant : Prop :=
  ∀ s t : State, s.inv → step s = .next t → t.inv

/-- The invariant over every run call, decode failures included, whose state `step` does not answer. The run calls are all of
R1270 but the accessor write and the direct execute, by the model's choice (notes/assumptions/17.md). -/
def Obligations.EveryRunCallKeepsTheInvariant : Prop :=
  ∀ (s t : State) (c : HostCall) (reply : Reply), s.inv → c.isRunCall = true →
    hostCall c s = .next (t, reply) → t.inv

/-- The invariant holds at reset, and from reset given any `RESET_PC` and `RESET_REGS`. -/
def Obligations.InvariantHoldsAtReset : Prop :=
  State.reset.inv ∧ ∀ (pc : Word) (r : ResetRegs), (State.powerOn pc r).inv

/-! ### Bus accesses -/

/-- R16, R220, R240: the order of bus accesses, read off a bus that writes every access down (notes/assumptions/5.md). An
instruction reads its operand bytes at increasing addresses, all of them, taken or not, and then makes the data accesses of
its rule in the rule's order; what else it does is what it does over plain RAM. A step reads the opcode byte, and after a
0xCB the byte after the base address, before them; on a decode failure those reads alone have happened (R418). Interrupt
entry writes the high byte of PC and then the low (R430). -/
def Obligations.BusAccessesInOrder : Prop :=
  (∀ x y : Access, x.code = y.code → x = y) ∧
  (∀ (i : Instr) (s : State), ∃ t, exec i s = .next t ∧
    execOn Params.recording i s = .next { t with
      device := s.device ++ (operandReads i s ++ dataAccesses i.form s).map Access.code }) ∧
  (∀ (s : State) (i : Instr), s.mode = .running → s.calls = [] →
    decode s.fetch.opcode s.fetch.isPrefixed = some i →
    let accesses := fetchReads s ++ operandReads i s.toExecute ++ dataAccesses i.form s.toExecute
    ∃ t, step s = .next t ∧
      stepOn Params.recording s = .next { t with device := s.device ++ accesses.map Access.code }) ∧
  (∀ (s : State) (report : Report), s.mode = .running → s.calls = [] → step s = .fault (.decodeFailure report) →
    stepCall s.irqPending s Params.recording = .next
      ({ s with mode := .failed report, device := s.device ++ (fetchReads s).map Access.code },
        .decodeFailure report)) ∧
  ∀ (s : State) (k : Fin 5), s.takesInterrupt = true →
    s.interrupt k Params.recording = ({ (s.interrupt k).1 with
      device := s.device ++ (pushWrites s.pc s).map Access.code }, .taken)
end

