-- ==== Sys2Proof/Laws/State.lean ====
section
/-! SUPPORT. One lemma per field per update of State, each true by `rfl`, so that no later proof unfolds a record
update. The lemmas of a bus access hold over any parameters but for the bus state it leaves. -/

namespace Sys2Proof.Machine

/-! ### jumpTo -/

@[simp] theorem State.jumpTo_a (s : State) (v : Word) : (s.jumpTo v).a = s.a := rfl
@[simp] theorem State.jumpTo_f (s : State) (v : Word) : (s.jumpTo v).f = s.f := rfl
@[simp] theorem State.jumpTo_b (s : State) (v : Word) : (s.jumpTo v).b = s.b := rfl
@[simp] theorem State.jumpTo_c (s : State) (v : Word) : (s.jumpTo v).c = s.c := rfl
@[simp] theorem State.jumpTo_d (s : State) (v : Word) : (s.jumpTo v).d = s.d := rfl
@[simp] theorem State.jumpTo_e (s : State) (v : Word) : (s.jumpTo v).e = s.e := rfl
@[simp] theorem State.jumpTo_h (s : State) (v : Word) : (s.jumpTo v).h = s.h := rfl
@[simp] theorem State.jumpTo_l (s : State) (v : Word) : (s.jumpTo v).l = s.l := rfl
@[simp] theorem State.jumpTo_sp (s : State) (v : Word) : (s.jumpTo v).sp = s.sp := rfl
@[simp] theorem State.jumpTo_pc (s : State) (v : Word) : (s.jumpTo v).pc = v := rfl
@[simp] theorem State.jumpTo_ime (s : State) (v : Word) : (s.jumpTo v).ime = s.ime := rfl
@[simp] theorem State.jumpTo_imePending (s : State) (v : Word) : (s.jumpTo v).imePending = s.imePending := rfl
@[simp] theorem State.jumpTo_mode (s : State) (v : Word) : (s.jumpTo v).mode = s.mode := rfl
@[simp] theorem State.jumpTo_haltBug (s : State) (v : Word) : (s.jumpTo v).haltBug = s.haltBug := rfl
@[simp] theorem State.jumpTo_mem (s : State) (v : Word) : (s.jumpTo v).mem = s.mem := rfl
@[simp] theorem State.jumpTo_device (s : State) (v : Word) : (s.jumpTo v).device = s.device := rfl
@[simp] theorem State.jumpTo_irqPending (s : State) (v : Word) : (s.jumpTo v).irqPending = s.irqPending := rfl
@[simp] theorem State.jumpTo_calls (s : State) (v : Word) : (s.jumpTo v).calls = s.calls := rfl

/-! ### advance -/

@[simp] theorem State.advance_a (s : State) (n : Nat) : (s.advance n).a = s.a := rfl
@[simp] theorem State.advance_f (s : State) (n : Nat) : (s.advance n).f = s.f := rfl
@[simp] theorem State.advance_b (s : State) (n : Nat) : (s.advance n).b = s.b := rfl
@[simp] theorem State.advance_c (s : State) (n : Nat) : (s.advance n).c = s.c := rfl
@[simp] theorem State.advance_d (s : State) (n : Nat) : (s.advance n).d = s.d := rfl
@[simp] theorem State.advance_e (s : State) (n : Nat) : (s.advance n).e = s.e := rfl
@[simp] theorem State.advance_h (s : State) (n : Nat) : (s.advance n).h = s.h := rfl
@[simp] theorem State.advance_l (s : State) (n : Nat) : (s.advance n).l = s.l := rfl
@[simp] theorem State.advance_sp (s : State) (n : Nat) : (s.advance n).sp = s.sp := rfl
@[simp] theorem State.advance_pc (s : State) (n : Nat) : (s.advance n).pc = s.pc + BitVec.ofNat 16 n := rfl
@[simp] theorem State.advance_ime (s : State) (n : Nat) : (s.advance n).ime = s.ime := rfl
@[simp] theorem State.advance_imePending (s : State) (n : Nat) : (s.advance n).imePending = s.imePending := rfl
@[simp] theorem State.advance_mode (s : State) (n : Nat) : (s.advance n).mode = s.mode := rfl
@[simp] theorem State.advance_haltBug (s : State) (n : Nat) : (s.advance n).haltBug = s.haltBug := rfl
@[simp] theorem State.advance_mem (s : State) (n : Nat) : (s.advance n).mem = s.mem := rfl
@[simp] theorem State.advance_device (s : State) (n : Nat) : (s.advance n).device = s.device := rfl
@[simp] theorem State.advance_irqPending (s : State) (n : Nat) : (s.advance n).irqPending = s.irqPending := rfl
@[simp] theorem State.advance_calls (s : State) (n : Nat) : (s.advance n).calls = s.calls := rfl

/-! ### setA -/

@[simp] theorem State.setA_a (s : State) (v : Byte) : (s.setA v).a = v := rfl
@[simp] theorem State.setA_f (s : State) (v : Byte) : (s.setA v).f = s.f := rfl
@[simp] theorem State.setA_b (s : State) (v : Byte) : (s.setA v).b = s.b := rfl
@[simp] theorem State.setA_c (s : State) (v : Byte) : (s.setA v).c = s.c := rfl
@[simp] theorem State.setA_d (s : State) (v : Byte) : (s.setA v).d = s.d := rfl
@[simp] theorem State.setA_e (s : State) (v : Byte) : (s.setA v).e = s.e := rfl
@[simp] theorem State.setA_h (s : State) (v : Byte) : (s.setA v).h = s.h := rfl
@[simp] theorem State.setA_l (s : State) (v : Byte) : (s.setA v).l = s.l := rfl
@[simp] theorem State.setA_sp (s : State) (v : Byte) : (s.setA v).sp = s.sp := rfl
@[simp] theorem State.setA_pc (s : State) (v : Byte) : (s.setA v).pc = s.pc := rfl
@[simp] theorem State.setA_ime (s : State) (v : Byte) : (s.setA v).ime = s.ime := rfl
@[simp] theorem State.setA_imePending (s : State) (v : Byte) : (s.setA v).imePending = s.imePending := rfl
@[simp] theorem State.setA_mode (s : State) (v : Byte) : (s.setA v).mode = s.mode := rfl
@[simp] theorem State.setA_haltBug (s : State) (v : Byte) : (s.setA v).haltBug = s.haltBug := rfl
@[simp] theorem State.setA_mem (s : State) (v : Byte) : (s.setA v).mem = s.mem := rfl
@[simp] theorem State.setA_device (s : State) (v : Byte) : (s.setA v).device = s.device := rfl
@[simp] theorem State.setA_irqPending (s : State) (v : Byte) : (s.setA v).irqPending = s.irqPending := rfl
@[simp] theorem State.setA_calls (s : State) (v : Byte) : (s.setA v).calls = s.calls := rfl

/-! ### setF -/

@[simp] theorem State.setF_a (s : State) (v : Flags) : (s.setF v).a = s.a := rfl
@[simp] theorem State.setF_f (s : State) (v : Flags) : (s.setF v).f = v := rfl
@[simp] theorem State.setF_b (s : State) (v : Flags) : (s.setF v).b = s.b := rfl
@[simp] theorem State.setF_c (s : State) (v : Flags) : (s.setF v).c = s.c := rfl
@[simp] theorem State.setF_d (s : State) (v : Flags) : (s.setF v).d = s.d := rfl
@[simp] theorem State.setF_e (s : State) (v : Flags) : (s.setF v).e = s.e := rfl
@[simp] theorem State.setF_h (s : State) (v : Flags) : (s.setF v).h = s.h := rfl
@[simp] theorem State.setF_l (s : State) (v : Flags) : (s.setF v).l = s.l := rfl
@[simp] theorem State.setF_sp (s : State) (v : Flags) : (s.setF v).sp = s.sp := rfl
@[simp] theorem State.setF_pc (s : State) (v : Flags) : (s.setF v).pc = s.pc := rfl
@[simp] theorem State.setF_ime (s : State) (v : Flags) : (s.setF v).ime = s.ime := rfl
@[simp] theorem State.setF_imePending (s : State) (v : Flags) : (s.setF v).imePending = s.imePending := rfl
@[simp] theorem State.setF_mode (s : State) (v : Flags) : (s.setF v).mode = s.mode := rfl
@[simp] theorem State.setF_haltBug (s : State) (v : Flags) : (s.setF v).haltBug = s.haltBug := rfl
@[simp] theorem State.setF_mem (s : State) (v : Flags) : (s.setF v).mem = s.mem := rfl
@[simp] theorem State.setF_device (s : State) (v : Flags) : (s.setF v).device = s.device := rfl
@[simp] theorem State.setF_irqPending (s : State) (v : Flags) : (s.setF v).irqPending = s.irqPending := rfl
@[simp] theorem State.setF_calls (s : State) (v : Flags) : (s.setF v).calls = s.calls := rfl

/-! ### setSp -/

@[simp] theorem State.setSp_a (s : State) (v : Word) : (s.setSp v).a = s.a := rfl
@[simp] theorem State.setSp_f (s : State) (v : Word) : (s.setSp v).f = s.f := rfl
@[simp] theorem State.setSp_b (s : State) (v : Word) : (s.setSp v).b = s.b := rfl
@[simp] theorem State.setSp_c (s : State) (v : Word) : (s.setSp v).c = s.c := rfl
@[simp] theorem State.setSp_d (s : State) (v : Word) : (s.setSp v).d = s.d := rfl
@[simp] theorem State.setSp_e (s : State) (v : Word) : (s.setSp v).e = s.e := rfl
@[simp] theorem State.setSp_h (s : State) (v : Word) : (s.setSp v).h = s.h := rfl
@[simp] theorem State.setSp_l (s : State) (v : Word) : (s.setSp v).l = s.l := rfl
@[simp] theorem State.setSp_sp (s : State) (v : Word) : (s.setSp v).sp = v := rfl
@[simp] theorem State.setSp_pc (s : State) (v : Word) : (s.setSp v).pc = s.pc := rfl
@[simp] theorem State.setSp_ime (s : State) (v : Word) : (s.setSp v).ime = s.ime := rfl
@[simp] theorem State.setSp_imePending (s : State) (v : Word) : (s.setSp v).imePending = s.imePending := rfl
@[simp] theorem State.setSp_mode (s : State) (v : Word) : (s.setSp v).mode = s.mode := rfl
@[simp] theorem State.setSp_haltBug (s : State) (v : Word) : (s.setSp v).haltBug = s.haltBug := rfl
@[simp] theorem State.setSp_mem (s : State) (v : Word) : (s.setSp v).mem = s.mem := rfl
@[simp] theorem State.setSp_device (s : State) (v : Word) : (s.setSp v).device = s.device := rfl
@[simp] theorem State.setSp_irqPending (s : State) (v : Word) : (s.setSp v).irqPending = s.irqPending := rfl
@[simp] theorem State.setSp_calls (s : State) (v : Word) : (s.setSp v).calls = s.calls := rfl

/-! ### setMode -/

@[simp] theorem State.setMode_a (s : State) (v : Mode) : (s.setMode v).a = s.a := rfl
@[simp] theorem State.setMode_f (s : State) (v : Mode) : (s.setMode v).f = s.f := rfl
@[simp] theorem State.setMode_b (s : State) (v : Mode) : (s.setMode v).b = s.b := rfl
@[simp] theorem State.setMode_c (s : State) (v : Mode) : (s.setMode v).c = s.c := rfl
@[simp] theorem State.setMode_d (s : State) (v : Mode) : (s.setMode v).d = s.d := rfl
@[simp] theorem State.setMode_e (s : State) (v : Mode) : (s.setMode v).e = s.e := rfl
@[simp] theorem State.setMode_h (s : State) (v : Mode) : (s.setMode v).h = s.h := rfl
@[simp] theorem State.setMode_l (s : State) (v : Mode) : (s.setMode v).l = s.l := rfl
@[simp] theorem State.setMode_sp (s : State) (v : Mode) : (s.setMode v).sp = s.sp := rfl
@[simp] theorem State.setMode_pc (s : State) (v : Mode) : (s.setMode v).pc = s.pc := rfl
@[simp] theorem State.setMode_ime (s : State) (v : Mode) : (s.setMode v).ime = s.ime := rfl
@[simp] theorem State.setMode_imePending (s : State) (v : Mode) : (s.setMode v).imePending = s.imePending := rfl
@[simp] theorem State.setMode_mode (s : State) (v : Mode) : (s.setMode v).mode = v := rfl
@[simp] theorem State.setMode_haltBug (s : State) (v : Mode) : (s.setMode v).haltBug = s.haltBug := rfl
@[simp] theorem State.setMode_mem (s : State) (v : Mode) : (s.setMode v).mem = s.mem := rfl
@[simp] theorem State.setMode_device (s : State) (v : Mode) : (s.setMode v).device = s.device := rfl
@[simp] theorem State.setMode_irqPending (s : State) (v : Mode) : (s.setMode v).irqPending = s.irqPending := rfl
@[simp] theorem State.setMode_calls (s : State) (v : Mode) : (s.setMode v).calls = s.calls := rfl

/-! ### setIme -/

@[simp] theorem State.setIme_a (s : State) (v : Bool) : (s.setIme v).a = s.a := rfl
@[simp] theorem State.setIme_f (s : State) (v : Bool) : (s.setIme v).f = s.f := rfl
@[simp] theorem State.setIme_b (s : State) (v : Bool) : (s.setIme v).b = s.b := rfl
@[simp] theorem State.setIme_c (s : State) (v : Bool) : (s.setIme v).c = s.c := rfl
@[simp] theorem State.setIme_d (s : State) (v : Bool) : (s.setIme v).d = s.d := rfl
@[simp] theorem State.setIme_e (s : State) (v : Bool) : (s.setIme v).e = s.e := rfl
@[simp] theorem State.setIme_h (s : State) (v : Bool) : (s.setIme v).h = s.h := rfl
@[simp] theorem State.setIme_l (s : State) (v : Bool) : (s.setIme v).l = s.l := rfl
@[simp] theorem State.setIme_sp (s : State) (v : Bool) : (s.setIme v).sp = s.sp := rfl
@[simp] theorem State.setIme_pc (s : State) (v : Bool) : (s.setIme v).pc = s.pc := rfl
@[simp] theorem State.setIme_ime (s : State) (v : Bool) : (s.setIme v).ime = v := rfl
@[simp] theorem State.setIme_imePending (s : State) (v : Bool) : (s.setIme v).imePending = s.imePending := rfl
@[simp] theorem State.setIme_mode (s : State) (v : Bool) : (s.setIme v).mode = s.mode := rfl
@[simp] theorem State.setIme_haltBug (s : State) (v : Bool) : (s.setIme v).haltBug = s.haltBug := rfl
@[simp] theorem State.setIme_mem (s : State) (v : Bool) : (s.setIme v).mem = s.mem := rfl
@[simp] theorem State.setIme_device (s : State) (v : Bool) : (s.setIme v).device = s.device := rfl
@[simp] theorem State.setIme_irqPending (s : State) (v : Bool) : (s.setIme v).irqPending = s.irqPending := rfl
@[simp] theorem State.setIme_calls (s : State) (v : Bool) : (s.setIme v).calls = s.calls := rfl

/-! ### setImePending -/

@[simp] theorem State.setImePending_a (s : State) (v : Bool) : (s.setImePending v).a = s.a := rfl
@[simp] theorem State.setImePending_f (s : State) (v : Bool) : (s.setImePending v).f = s.f := rfl
@[simp] theorem State.setImePending_b (s : State) (v : Bool) : (s.setImePending v).b = s.b := rfl
@[simp] theorem State.setImePending_c (s : State) (v : Bool) : (s.setImePending v).c = s.c := rfl
@[simp] theorem State.setImePending_d (s : State) (v : Bool) : (s.setImePending v).d = s.d := rfl
@[simp] theorem State.setImePending_e (s : State) (v : Bool) : (s.setImePending v).e = s.e := rfl
@[simp] theorem State.setImePending_h (s : State) (v : Bool) : (s.setImePending v).h = s.h := rfl
@[simp] theorem State.setImePending_l (s : State) (v : Bool) : (s.setImePending v).l = s.l := rfl
@[simp] theorem State.setImePending_sp (s : State) (v : Bool) : (s.setImePending v).sp = s.sp := rfl
@[simp] theorem State.setImePending_pc (s : State) (v : Bool) : (s.setImePending v).pc = s.pc := rfl
@[simp] theorem State.setImePending_ime (s : State) (v : Bool) : (s.setImePending v).ime = s.ime := rfl
@[simp] theorem State.setImePending_imePending (s : State) (v : Bool) : (s.setImePending v).imePending = v := rfl
@[simp] theorem State.setImePending_mode (s : State) (v : Bool) : (s.setImePending v).mode = s.mode := rfl
@[simp] theorem State.setImePending_haltBug (s : State) (v : Bool) : (s.setImePending v).haltBug = s.haltBug := rfl
@[simp] theorem State.setImePending_mem (s : State) (v : Bool) : (s.setImePending v).mem = s.mem := rfl
@[simp] theorem State.setImePending_device (s : State) (v : Bool) : (s.setImePending v).device = s.device := rfl
@[simp] theorem State.setImePending_irqPending (s : State) (v : Bool) : (s.setImePending v).irqPending = s.irqPending := rfl
@[simp] theorem State.setImePending_calls (s : State) (v : Bool) : (s.setImePending v).calls = s.calls := rfl

/-! ### setHaltBug -/

@[simp] theorem State.setHaltBug_a (s : State) (v : Bool) : (s.setHaltBug v).a = s.a := rfl
@[simp] theorem State.setHaltBug_f (s : State) (v : Bool) : (s.setHaltBug v).f = s.f := rfl
@[simp] theorem State.setHaltBug_b (s : State) (v : Bool) : (s.setHaltBug v).b = s.b := rfl
@[simp] theorem State.setHaltBug_c (s : State) (v : Bool) : (s.setHaltBug v).c = s.c := rfl
@[simp] theorem State.setHaltBug_d (s : State) (v : Bool) : (s.setHaltBug v).d = s.d := rfl
@[simp] theorem State.setHaltBug_e (s : State) (v : Bool) : (s.setHaltBug v).e = s.e := rfl
@[simp] theorem State.setHaltBug_h (s : State) (v : Bool) : (s.setHaltBug v).h = s.h := rfl
@[simp] theorem State.setHaltBug_l (s : State) (v : Bool) : (s.setHaltBug v).l = s.l := rfl
@[simp] theorem State.setHaltBug_sp (s : State) (v : Bool) : (s.setHaltBug v).sp = s.sp := rfl
@[simp] theorem State.setHaltBug_pc (s : State) (v : Bool) : (s.setHaltBug v).pc = s.pc := rfl
@[simp] theorem State.setHaltBug_ime (s : State) (v : Bool) : (s.setHaltBug v).ime = s.ime := rfl
@[simp] theorem State.setHaltBug_imePending (s : State) (v : Bool) : (s.setHaltBug v).imePending = s.imePending := rfl
@[simp] theorem State.setHaltBug_mode (s : State) (v : Bool) : (s.setHaltBug v).mode = s.mode := rfl
@[simp] theorem State.setHaltBug_haltBug (s : State) (v : Bool) : (s.setHaltBug v).haltBug = v := rfl
@[simp] theorem State.setHaltBug_mem (s : State) (v : Bool) : (s.setHaltBug v).mem = s.mem := rfl
@[simp] theorem State.setHaltBug_device (s : State) (v : Bool) : (s.setHaltBug v).device = s.device := rfl
@[simp] theorem State.setHaltBug_irqPending (s : State) (v : Bool) : (s.setHaltBug v).irqPending = s.irqPending := rfl
@[simp] theorem State.setHaltBug_calls (s : State) (v : Bool) : (s.setHaltBug v).calls = s.calls := rfl

/-! ### setBC -/

@[simp] theorem State.setBC_a (s : State) (v : Word) : (s.setBC v).a = s.a := rfl
@[simp] theorem State.setBC_f (s : State) (v : Word) : (s.setBC v).f = s.f := rfl
@[simp] theorem State.setBC_b (s : State) (v : Word) : (s.setBC v).b = hiByte v := rfl
@[simp] theorem State.setBC_c (s : State) (v : Word) : (s.setBC v).c = loByte v := rfl
@[simp] theorem State.setBC_d (s : State) (v : Word) : (s.setBC v).d = s.d := rfl
@[simp] theorem State.setBC_e (s : State) (v : Word) : (s.setBC v).e = s.e := rfl
@[simp] theorem State.setBC_h (s : State) (v : Word) : (s.setBC v).h = s.h := rfl
@[simp] theorem State.setBC_l (s : State) (v : Word) : (s.setBC v).l = s.l := rfl
@[simp] theorem State.setBC_sp (s : State) (v : Word) : (s.setBC v).sp = s.sp := rfl
@[simp] theorem State.setBC_pc (s : State) (v : Word) : (s.setBC v).pc = s.pc := rfl
@[simp] theorem State.setBC_ime (s : State) (v : Word) : (s.setBC v).ime = s.ime := rfl
@[simp] theorem State.setBC_imePending (s : State) (v : Word) : (s.setBC v).imePending = s.imePending := rfl
@[simp] theorem State.setBC_mode (s : State) (v : Word) : (s.setBC v).mode = s.mode := rfl
@[simp] theorem State.setBC_haltBug (s : State) (v : Word) : (s.setBC v).haltBug = s.haltBug := rfl
@[simp] theorem State.setBC_mem (s : State) (v : Word) : (s.setBC v).mem = s.mem := rfl
@[simp] theorem State.setBC_device (s : State) (v : Word) : (s.setBC v).device = s.device := rfl
@[simp] theorem State.setBC_irqPending (s : State) (v : Word) : (s.setBC v).irqPending = s.irqPending := rfl
@[simp] theorem State.setBC_calls (s : State) (v : Word) : (s.setBC v).calls = s.calls := rfl

/-! ### setDE -/

@[simp] theorem State.setDE_a (s : State) (v : Word) : (s.setDE v).a = s.a := rfl
@[simp] theorem State.setDE_f (s : State) (v : Word) : (s.setDE v).f = s.f := rfl
@[simp] theorem State.setDE_b (s : State) (v : Word) : (s.setDE v).b = s.b := rfl
@[simp] theorem State.setDE_c (s : State) (v : Word) : (s.setDE v).c = s.c := rfl
@[simp] theorem State.setDE_d (s : State) (v : Word) : (s.setDE v).d = hiByte v := rfl
@[simp] theorem State.setDE_e (s : State) (v : Word) : (s.setDE v).e = loByte v := rfl
@[simp] theorem State.setDE_h (s : State) (v : Word) : (s.setDE v).h = s.h := rfl
@[simp] theorem State.setDE_l (s : State) (v : Word) : (s.setDE v).l = s.l := rfl
@[simp] theorem State.setDE_sp (s : State) (v : Word) : (s.setDE v).sp = s.sp := rfl
@[simp] theorem State.setDE_pc (s : State) (v : Word) : (s.setDE v).pc = s.pc := rfl
@[simp] theorem State.setDE_ime (s : State) (v : Word) : (s.setDE v).ime = s.ime := rfl
@[simp] theorem State.setDE_imePending (s : State) (v : Word) : (s.setDE v).imePending = s.imePending := rfl
@[simp] theorem State.setDE_mode (s : State) (v : Word) : (s.setDE v).mode = s.mode := rfl
@[simp] theorem State.setDE_haltBug (s : State) (v : Word) : (s.setDE v).haltBug = s.haltBug := rfl
@[simp] theorem State.setDE_mem (s : State) (v : Word) : (s.setDE v).mem = s.mem := rfl
@[simp] theorem State.setDE_device (s : State) (v : Word) : (s.setDE v).device = s.device := rfl
@[simp] theorem State.setDE_irqPending (s : State) (v : Word) : (s.setDE v).irqPending = s.irqPending := rfl
@[simp] theorem State.setDE_calls (s : State) (v : Word) : (s.setDE v).calls = s.calls := rfl

/-! ### setHL -/

@[simp] theorem State.setHL_a (s : State) (v : Word) : (s.setHL v).a = s.a := rfl
@[simp] theorem State.setHL_f (s : State) (v : Word) : (s.setHL v).f = s.f := rfl
@[simp] theorem State.setHL_b (s : State) (v : Word) : (s.setHL v).b = s.b := rfl
@[simp] theorem State.setHL_c (s : State) (v : Word) : (s.setHL v).c = s.c := rfl
@[simp] theorem State.setHL_d (s : State) (v : Word) : (s.setHL v).d = s.d := rfl
@[simp] theorem State.setHL_e (s : State) (v : Word) : (s.setHL v).e = s.e := rfl
@[simp] theorem State.setHL_h (s : State) (v : Word) : (s.setHL v).h = hiByte v := rfl
@[simp] theorem State.setHL_l (s : State) (v : Word) : (s.setHL v).l = loByte v := rfl
@[simp] theorem State.setHL_sp (s : State) (v : Word) : (s.setHL v).sp = s.sp := rfl
@[simp] theorem State.setHL_pc (s : State) (v : Word) : (s.setHL v).pc = s.pc := rfl
@[simp] theorem State.setHL_ime (s : State) (v : Word) : (s.setHL v).ime = s.ime := rfl
@[simp] theorem State.setHL_imePending (s : State) (v : Word) : (s.setHL v).imePending = s.imePending := rfl
@[simp] theorem State.setHL_mode (s : State) (v : Word) : (s.setHL v).mode = s.mode := rfl
@[simp] theorem State.setHL_haltBug (s : State) (v : Word) : (s.setHL v).haltBug = s.haltBug := rfl
@[simp] theorem State.setHL_mem (s : State) (v : Word) : (s.setHL v).mem = s.mem := rfl
@[simp] theorem State.setHL_device (s : State) (v : Word) : (s.setHL v).device = s.device := rfl
@[simp] theorem State.setHL_irqPending (s : State) (v : Word) : (s.setHL v).irqPending = s.irqPending := rfl
@[simp] theorem State.setHL_calls (s : State) (v : Word) : (s.setHL v).calls = s.calls := rfl

/-! ### setAF -/

@[simp] theorem State.setAF_a (s : State) (v : Word) : (s.setAF v).a = hiByte v := rfl
@[simp] theorem State.setAF_f (s : State) (v : Word) : (s.setAF v).f = Flags.ofByte (loByte v) := rfl
@[simp] theorem State.setAF_b (s : State) (v : Word) : (s.setAF v).b = s.b := rfl
@[simp] theorem State.setAF_c (s : State) (v : Word) : (s.setAF v).c = s.c := rfl
@[simp] theorem State.setAF_d (s : State) (v : Word) : (s.setAF v).d = s.d := rfl
@[simp] theorem State.setAF_e (s : State) (v : Word) : (s.setAF v).e = s.e := rfl
@[simp] theorem State.setAF_h (s : State) (v : Word) : (s.setAF v).h = s.h := rfl
@[simp] theorem State.setAF_l (s : State) (v : Word) : (s.setAF v).l = s.l := rfl
@[simp] theorem State.setAF_sp (s : State) (v : Word) : (s.setAF v).sp = s.sp := rfl
@[simp] theorem State.setAF_pc (s : State) (v : Word) : (s.setAF v).pc = s.pc := rfl
@[simp] theorem State.setAF_ime (s : State) (v : Word) : (s.setAF v).ime = s.ime := rfl
@[simp] theorem State.setAF_imePending (s : State) (v : Word) : (s.setAF v).imePending = s.imePending := rfl
@[simp] theorem State.setAF_mode (s : State) (v : Word) : (s.setAF v).mode = s.mode := rfl
@[simp] theorem State.setAF_haltBug (s : State) (v : Word) : (s.setAF v).haltBug = s.haltBug := rfl
@[simp] theorem State.setAF_mem (s : State) (v : Word) : (s.setAF v).mem = s.mem := rfl
@[simp] theorem State.setAF_device (s : State) (v : Word) : (s.setAF v).device = s.device := rfl
@[simp] theorem State.setAF_irqPending (s : State) (v : Word) : (s.setAF v).irqPending = s.irqPending := rfl
@[simp] theorem State.setAF_calls (s : State) (v : Word) : (s.setAF v).calls = s.calls := rfl

/-! ### writeByte -/

@[simp] theorem State.writeByte_a (s : State) (p : Word) (v : Byte) (P : Params) : (s.writeByte p v P).a = s.a := rfl
@[simp] theorem State.writeByte_f (s : State) (p : Word) (v : Byte) (P : Params) : (s.writeByte p v P).f = s.f := rfl
@[simp] theorem State.writeByte_b (s : State) (p : Word) (v : Byte) (P : Params) : (s.writeByte p v P).b = s.b := rfl
@[simp] theorem State.writeByte_c (s : State) (p : Word) (v : Byte) (P : Params) : (s.writeByte p v P).c = s.c := rfl
@[simp] theorem State.writeByte_d (s : State) (p : Word) (v : Byte) (P : Params) : (s.writeByte p v P).d = s.d := rfl
@[simp] theorem State.writeByte_e (s : State) (p : Word) (v : Byte) (P : Params) : (s.writeByte p v P).e = s.e := rfl
@[simp] theorem State.writeByte_h (s : State) (p : Word) (v : Byte) (P : Params) : (s.writeByte p v P).h = s.h := rfl
@[simp] theorem State.writeByte_l (s : State) (p : Word) (v : Byte) (P : Params) : (s.writeByte p v P).l = s.l := rfl
@[simp] theorem State.writeByte_sp (s : State) (p : Word) (v : Byte) (P : Params) : (s.writeByte p v P).sp = s.sp := rfl
@[simp] theorem State.writeByte_pc (s : State) (p : Word) (v : Byte) (P : Params) : (s.writeByte p v P).pc = s.pc := rfl
@[simp] theorem State.writeByte_ime (s : State) (p : Word) (v : Byte) (P : Params) : (s.writeByte p v P).ime = s.ime := rfl
@[simp] theorem State.writeByte_imePending (s : State) (p : Word) (v : Byte) (P : Params) : (s.writeByte p v P).imePending = s.imePending := rfl
@[simp] theorem State.writeByte_mode (s : State) (p : Word) (v : Byte) (P : Params) : (s.writeByte p v P).mode = s.mode := rfl
@[simp] theorem State.writeByte_haltBug (s : State) (p : Word) (v : Byte) (P : Params) : (s.writeByte p v P).haltBug = s.haltBug := rfl
@[simp] theorem State.writeByte_mem (s : State) (p : Word) (v : Byte) : (s.writeByte p v).mem = Memory.write s.mem p.toNat v := rfl
@[simp] theorem State.writeByte_device (s : State) (p : Word) (v : Byte) : (s.writeByte p v).device = s.device := rfl
@[simp] theorem State.writeByte_irqPending (s : State) (p : Word) (v : Byte) (P : Params) : (s.writeByte p v P).irqPending = s.irqPending := rfl
@[simp] theorem State.writeByte_calls (s : State) (p : Word) (v : Byte) (P : Params) : (s.writeByte p v P).calls = s.calls := rfl

/-! ### setBus and memRead -/

@[simp] theorem State.setBus_a (s : State) (b : BusState) : (s.setBus b).a = s.a := rfl
@[simp] theorem State.setBus_f (s : State) (b : BusState) : (s.setBus b).f = s.f := rfl
@[simp] theorem State.setBus_b (s : State) (b : BusState) : (s.setBus b).b = s.b := rfl
@[simp] theorem State.setBus_c (s : State) (b : BusState) : (s.setBus b).c = s.c := rfl
@[simp] theorem State.setBus_d (s : State) (b : BusState) : (s.setBus b).d = s.d := rfl
@[simp] theorem State.setBus_e (s : State) (b : BusState) : (s.setBus b).e = s.e := rfl
@[simp] theorem State.setBus_h (s : State) (b : BusState) : (s.setBus b).h = s.h := rfl
@[simp] theorem State.setBus_l (s : State) (b : BusState) : (s.setBus b).l = s.l := rfl
@[simp] theorem State.setBus_sp (s : State) (b : BusState) : (s.setBus b).sp = s.sp := rfl
@[simp] theorem State.setBus_pc (s : State) (b : BusState) : (s.setBus b).pc = s.pc := rfl
@[simp] theorem State.setBus_ime (s : State) (b : BusState) : (s.setBus b).ime = s.ime := rfl
@[simp] theorem State.setBus_imePending (s : State) (b : BusState) : (s.setBus b).imePending = s.imePending := rfl
@[simp] theorem State.setBus_mode (s : State) (b : BusState) : (s.setBus b).mode = s.mode := rfl
@[simp] theorem State.setBus_haltBug (s : State) (b : BusState) : (s.setBus b).haltBug = s.haltBug := rfl
@[simp] theorem State.setBus_irqPending (s : State) (b : BusState) : (s.setBus b).irqPending = s.irqPending := rfl
@[simp] theorem State.setBus_calls (s : State) (b : BusState) : (s.setBus b).calls = s.calls := rfl
@[simp] theorem State.setBus_mem (s : State) (b : BusState) : (s.setBus b).mem = b.mem := rfl
@[simp] theorem State.setBus_device (s : State) (b : BusState) : (s.setBus b).device = b.device := rfl
@[simp] theorem State.busState_setBus (s : State) (b : BusState) : (s.setBus b).busState = b := rfl
@[simp] theorem State.setBus_busState (s : State) : s.setBus s.busState = s := rfl
@[simp] theorem State.setBus_setBus (s : State) (b b' : BusState) : (s.setBus b).setBus b' = s.setBus b' := rfl

/-- A bus read changes the bus state alone, as the bus says (R202). -/
@[simp] theorem State.memRead_snd (s : State) (p : Word) (P : Params) :
    (s.memRead p P).2 = s.setBus (P.bus.read s.busState p).2 := rfl

/-- Over plain RAM that is no change (R203, R223). -/
@[simp] theorem State.setBus_default (s : State) (p : Word) :
    s.setBus (Params.default.bus.read s.busState p).2 = s := rfl

/-- A read of plain RAM gives the byte and changes nothing (R203, R223). -/
theorem State.memRead_default (s : State) (p : Word) : s.memRead p = (s.readByte p, s) := rfl

/-! ### failDecode -/

@[simp] theorem State.failDecode_a (s : State) (r : Report) : (s.failDecode r).a = s.a := rfl
@[simp] theorem State.failDecode_f (s : State) (r : Report) : (s.failDecode r).f = s.f := rfl
@[simp] theorem State.failDecode_b (s : State) (r : Report) : (s.failDecode r).b = s.b := rfl
@[simp] theorem State.failDecode_c (s : State) (r : Report) : (s.failDecode r).c = s.c := rfl
@[simp] theorem State.failDecode_d (s : State) (r : Report) : (s.failDecode r).d = s.d := rfl
@[simp] theorem State.failDecode_e (s : State) (r : Report) : (s.failDecode r).e = s.e := rfl
@[simp] theorem State.failDecode_h (s : State) (r : Report) : (s.failDecode r).h = s.h := rfl
@[simp] theorem State.failDecode_l (s : State) (r : Report) : (s.failDecode r).l = s.l := rfl
@[simp] theorem State.failDecode_sp (s : State) (r : Report) : (s.failDecode r).sp = s.sp := rfl
@[simp] theorem State.failDecode_pc (s : State) (r : Report) : (s.failDecode r).pc = s.pc := rfl
@[simp] theorem State.failDecode_ime (s : State) (r : Report) : (s.failDecode r).ime = s.ime := rfl
@[simp] theorem State.failDecode_imePending (s : State) (r : Report) : (s.failDecode r).imePending = s.imePending := rfl
@[simp] theorem State.failDecode_mode (s : State) (r : Report) : (s.failDecode r).mode = .failed r := rfl
@[simp] theorem State.failDecode_haltBug (s : State) (r : Report) : (s.failDecode r).haltBug = s.haltBug := rfl
@[simp] theorem State.failDecode_mem (s : State) (r : Report) : (s.failDecode r).mem = s.mem := rfl
@[simp] theorem State.failDecode_device (s : State) (r : Report) : (s.failDecode r).device = s.device := rfl
@[simp] theorem State.failDecode_irqPending (s : State) (r : Report) : (s.failDecode r).irqPending = s.irqPending := rfl
@[simp] theorem State.failDecode_calls (s : State) (r : Report) : (s.failDecode r).calls = s.calls := rfl

/-! ### toExecute -/

@[simp] theorem State.toExecute_a (s : State) : (s.toExecute).a = s.a := rfl
@[simp] theorem State.toExecute_f (s : State) : (s.toExecute).f = s.f := rfl
@[simp] theorem State.toExecute_b (s : State) : (s.toExecute).b = s.b := rfl
@[simp] theorem State.toExecute_c (s : State) : (s.toExecute).c = s.c := rfl
@[simp] theorem State.toExecute_d (s : State) : (s.toExecute).d = s.d := rfl
@[simp] theorem State.toExecute_e (s : State) : (s.toExecute).e = s.e := rfl
@[simp] theorem State.toExecute_h (s : State) : (s.toExecute).h = s.h := rfl
@[simp] theorem State.toExecute_l (s : State) : (s.toExecute).l = s.l := rfl
@[simp] theorem State.toExecute_sp (s : State) : (s.toExecute).sp = s.sp := rfl
@[simp] theorem State.toExecute_pc (s : State) : (s.toExecute).pc = s.fetchBase := rfl
@[simp] theorem State.toExecute_ime (s : State) : (s.toExecute).ime = s.ime := rfl
@[simp] theorem State.toExecute_imePending (s : State) : (s.toExecute).imePending = s.imePending := rfl
@[simp] theorem State.toExecute_mode (s : State) : (s.toExecute).mode = s.mode := rfl
@[simp] theorem State.toExecute_haltBug (s : State) : (s.toExecute).haltBug = false := rfl
@[simp] theorem State.toExecute_mem (s : State) : (s.toExecute).mem = s.mem := rfl
@[simp] theorem State.toExecute_device (s : State) : (s.toExecute).device = s.device := rfl
@[simp] theorem State.toExecute_irqPending (s : State) : (s.toExecute).irqPending = s.irqPending := rfl
@[simp] theorem State.toExecute_calls (s : State) : (s.toExecute).calls = s.calls := rfl

end Sys2Proof.Machine
end

