-- ==== Sys2Proof/Laws/Memory.lean ====
section
/-! SUPPORT. The laws of memory: what a read gives after a write, and that every operation keeps the canonical form. -/

namespace Sys2Proof.Machine

/-! ### Reads after the pieces of a write -/

theorem Memory.read_insert_self (m : List Host.Cell) (n : Nat) (v : Byte) (h : ∀ cell ∈ m, cell.1 ≠ n) :
    Memory.read (Memory.insert m n v) n = v := by
  induction m with
  | nil => simp [Memory.insert, Memory.read]
  | cons cell m ih =>
    obtain ⟨k, w⟩ := cell
    have hk : k ≠ n := h (k, w) (by simp)
    have ih := ih fun c hc => h c (by simp [hc])
    by_cases hlt : n < k <;> simp [Memory.insert, Memory.read, hlt, hk, ih]

theorem Memory.read_insert_other (m : List Host.Cell) (n k : Nat) (v : Byte) (h : k ≠ n) :
    Memory.read (Memory.insert m n v) k = Memory.read m k := by
  induction m with
  | nil => simp [Memory.insert, Memory.read, h.symm]
  | cons cell m ih =>
    obtain ⟨j, w⟩ := cell
    by_cases hlt : n < j <;> simp [Memory.insert, Memory.read, hlt, h.symm, ih]

theorem Memory.read_filter_other (m : List Host.Cell) (n k : Nat) (h : k ≠ n) :
    Memory.read (m.filter fun cell => cell.1 != n) k = Memory.read m k := by
  induction m with
  | nil => rfl
  | cons cell m ih =>
    obtain ⟨j, w⟩ := cell
    by_cases hj : j = n
    · subst hj; simp [Memory.read, h.symm, ih]
    · simp [Memory.read, hj, ih]

theorem Memory.read_filter_self (m : List Host.Cell) (n : Nat) :
    Memory.read (m.filter fun cell => cell.1 != n) n = Config.unlistedByte := by
  induction m with
  | nil => rfl
  | cons cell m ih =>
    obtain ⟨j, w⟩ := cell
    by_cases hj : j = n
    · subst hj; simpa using ih
    · simp [Memory.read, hj, ih]

/-! ### Read after write -/

/-- A read after a write to the same address gives the value written (R204). -/
@[simp] theorem Memory.read_write_self (m : List Host.Cell) (n : Nat) (v : Byte) :
    Memory.read (Memory.write m n v) n = v := by
  unfold Memory.write
  by_cases hv : v = Config.unlistedByte
  · simp [hv, Memory.read_filter_self]
  · simp only [hv, if_false]
    exact Memory.read_insert_self _ _ _ (by simp)

/-- A write leaves every other address alone (R203). -/
theorem Memory.read_write_other (m : List Host.Cell) (n k : Nat) (v : Byte) (h : k ≠ n) :
    Memory.read (Memory.write m n v) k = Memory.read m k := by
  unfold Memory.write
  by_cases hv : v = Config.unlistedByte
  · simp [hv, Memory.read_filter_other, h]
  · simp only [hv, if_false]
    rw [Memory.read_insert_other _ _ _ _ h, Memory.read_filter_other _ _ _ h]

/-- A read of plain RAM is of the byte at the address (R203). -/
theorem State.readByte_eq (s : State) (p : Word) : s.readByte p = Memory.read s.mem p.toNat := rfl

/-- A write of plain RAM replaces the byte at the address (R203). -/
theorem State.writeByte_eq (s : State) (p : Word) (v : Byte) :
    s.writeByte p v = { s with mem := Memory.write s.mem p.toNat v } := rfl

/-- One byte read after one byte written. -/
theorem State.readByte_writeByte (s : State) (p q : Word) (v : Byte) :
    (s.writeByte p v).readByte q = if q = p then v else s.readByte q := by
  by_cases h : q = p
  · subst h; simp [State.readByte_eq]
  · have : q.toNat ≠ p.toNat := fun he => h (BitVec.eq_of_toNat_eq he)
    simp [State.readByte_eq, h, Memory.read_write_other, this]

@[simp] theorem State.readByte_writeByte_self (s : State) (p : Word) (v : Byte) :
    (s.writeByte p v).readByte p = v := by simp [State.readByte_writeByte]

/-- A read depends on memory alone. -/
theorem State.readByte_congr {s t : State} (h : t.mem = s.mem) (p : Word) : t.readByte p = s.readByte p := by
  simp [State.readByte_eq, h]

theorem State.readWord_congr {s t : State} (h : t.mem = s.mem) (p : Word) : t.readWord p = s.readWord p := by
  show concat16 (t.readByte (p + 1)) (t.readByte p) = concat16 (s.readByte (p + 1)) (s.readByte p)
  simp [State.readByte_eq, h]

/-! A read sees no update of a register. -/

@[simp] theorem State.readByte_jumpTo (s : State) (v : Word) (p : Word) : (s.jumpTo v).readByte p = s.readByte p := rfl
@[simp] theorem State.readByte_advance (s : State) (n : Nat) (p : Word) : (s.advance n).readByte p = s.readByte p := rfl
@[simp] theorem State.readByte_setA (s : State) (v : Byte) (p : Word) : (s.setA v).readByte p = s.readByte p := rfl
@[simp] theorem State.readByte_setF (s : State) (v : Flags) (p : Word) : (s.setF v).readByte p = s.readByte p := rfl
@[simp] theorem State.readByte_setSp (s : State) (v : Word) (p : Word) : (s.setSp v).readByte p = s.readByte p := rfl
@[simp] theorem State.readByte_setMode (s : State) (v : Mode) (p : Word) : (s.setMode v).readByte p = s.readByte p := rfl
@[simp] theorem State.readByte_setIme (s : State) (v : Bool) (p : Word) : (s.setIme v).readByte p = s.readByte p := rfl
@[simp] theorem State.readByte_setImePending (s : State) (v : Bool) (p : Word) : (s.setImePending v).readByte p = s.readByte p := rfl
@[simp] theorem State.readByte_setHaltBug (s : State) (v : Bool) (p : Word) : (s.setHaltBug v).readByte p = s.readByte p := rfl
@[simp] theorem State.readByte_setBC (s : State) (v : Word) (p : Word) : (s.setBC v).readByte p = s.readByte p := rfl
@[simp] theorem State.readByte_setDE (s : State) (v : Word) (p : Word) : (s.setDE v).readByte p = s.readByte p := rfl
@[simp] theorem State.readByte_setHL (s : State) (v : Word) (p : Word) : (s.setHL v).readByte p = s.readByte p := rfl
@[simp] theorem State.readByte_setAF (s : State) (v : Word) (p : Word) : (s.setAF v).readByte p = s.readByte p := rfl
@[simp] theorem State.readByte_failDecode (s : State) (r : Report) (p : Word) : (s.failDecode r).readByte p = s.readByte p := rfl
@[simp] theorem State.readByte_toExecute (s : State) (p : Word) : s.toExecute.readByte p = s.readByte p := rfl

/-- A word is written low byte first (R13, R211). -/
theorem State.writeWord_eq (s : State) (p v : Word) :
    s.writeWord p v = (s.writeByte p (loByte v)).writeByte (p + 1) (hiByte v) := rfl

/-! ### The canonical form -/

theorem Memory.mem_insert (m : List Host.Cell) (n : Nat) (v : Byte) (cell : Host.Cell) :
    cell ∈ Memory.insert m n v ↔ cell = (n, v) ∨ cell ∈ m := by
  induction m with
  | nil => simp [Memory.insert]
  | cons c m ih =>
    obtain ⟨k, w⟩ := c
    by_cases h : n < k
    · simp [Memory.insert, h]
    · simp only [Memory.insert, h, if_false, List.mem_cons, ih]
      tauto

theorem Memory.pairwise_insert (m : List Host.Cell) (n : Nat) (v : Byte)
    (hm : m.Pairwise fun x y => x.1 < y.1) (hn : ∀ cell ∈ m, cell.1 ≠ n) :
    (Memory.insert m n v).Pairwise fun x y => x.1 < y.1 := by
  induction m with
  | nil => simp [Memory.insert]
  | cons c m ih =>
    obtain ⟨k, w⟩ := c
    obtain ⟨hk, hm⟩ := List.pairwise_cons.mp hm
    have hkn : k ≠ n := hn (k, w) (by simp)
    by_cases h : n < k
    · simp only [Memory.insert, h, if_true, List.pairwise_cons]
      refine ⟨fun c hc => ?_, hk, hm⟩
      rcases List.mem_cons.mp hc with rfl | hc
      · exact h
      · exact h.trans (hk c hc)
    · simp only [Memory.insert, h, if_false, List.pairwise_cons]
      refine ⟨fun c hc => ?_, ih hm fun c hc => hn c (by simp [hc])⟩
      rcases (Memory.mem_insert m n v c).mp hc with rfl | hc
      · show k < n; omega
      · exact hk c hc

/-- A write keeps the canonical form. -/
theorem Memory.wf_write (m : List Host.Cell) (n : Nat) (v : Byte) (hn : n < 65536) (h : Memory.wf m) :
    Memory.wf (Memory.write m n v) := by
  obtain ⟨hp, hc⟩ := h
  have hp' := hp.filter (fun cell : Host.Cell => cell.1 != n)
  unfold Memory.write
  by_cases hv : v = Config.unlistedByte
  · simp only [hv, if_true]
    exact ⟨hp', fun c h => hc c (List.mem_of_mem_filter h)⟩
  · simp only [hv, if_false]
    refine ⟨Memory.pairwise_insert _ _ _ hp' (by simp), fun c h => ?_⟩
    rcases (Memory.mem_insert _ _ _ _).mp h with rfl | h
    · exact ⟨hn, hv⟩
    · exact hc c (List.mem_of_mem_filter h)

/-- A bus write keeps the canonical form. -/
theorem State.wf_writeByte (s : State) (p : Word) (v : Byte) (h : Memory.wf s.mem) :
    Memory.wf (s.writeByte p v).mem := Memory.wf_write _ _ _ p.isLt h

/-- Memory at reset is in the canonical form. -/
theorem State.wf_reset : Memory.wf State.reset.mem := by simp [State.reset, State.powerOn, Memory.wf]

end Sys2Proof.Machine
end

