-- ==== Sys2Proof/Laws/Operands.lean ====
section
/-! SUPPORT. What the shared operand and stack operations can do, said once. -/

namespace Sys2Proof.Machine

/-! ### Words and halves -/

theorem concat16_toNat (hi lo : Byte) : (concat16 hi lo).toNat = hi.toNat * 256 + lo.toNat := by
  have h : lo.toNat < 2 ^ 8 := lo.isLt
  rw [concat16, BitVec.toNat_append, ← Nat.shiftLeft_add_eq_or_of_lt h, Nat.shiftLeft_eq]

theorem hiByte_toNat (v : Word) : (hiByte v).toNat = v.toNat / 256 := by
  have := v.isLt
  simp only [hiByte, BitVec.extractLsb'_toNat, Nat.shiftRight_eq_div_pow]
  omega

theorem loByte_toNat (v : Word) : (loByte v).toNat = v.toNat % 256 := by
  simp [loByte, BitVec.extractLsb'_toNat]

@[simp] theorem hiByte_concat16 (hi lo : Byte) : hiByte (concat16 hi lo) = hi := by
  apply BitVec.eq_of_toNat_eq
  have := lo.isLt
  rw [hiByte_toNat, concat16_toNat]; omega

@[simp] theorem loByte_concat16 (hi lo : Byte) : loByte (concat16 hi lo) = lo := by
  apply BitVec.eq_of_toNat_eq
  have := lo.isLt
  rw [loByte_toNat, concat16_toNat]; omega

@[simp] theorem concat16_halves (v : Word) : concat16 (hiByte v) (loByte v) = v := by
  apply BitVec.eq_of_toNat_eq
  rw [concat16_toNat, hiByte_toNat, loByte_toNat]; omega

theorem concat16_inj (hi lo hi' lo' : Byte) : concat16 hi lo = concat16 hi' lo' ↔ hi = hi' ∧ lo = lo' := by
  constructor
  · intro h
    exact ⟨by simpa using congrArg hiByte h, by simpa using congrArg loByte h⟩
  · rintro ⟨rfl, rfl⟩; rfl

/-! ### Pairs -/

@[simp] theorem State.bc_setBC (s : State) (v : Word) : (s.setBC v).bc = v := by simp [State.bc]
@[simp] theorem State.de_setDE (s : State) (v : Word) : (s.setDE v).de = v := by simp [State.de]
@[simp] theorem State.hl_setHL (s : State) (v : Word) : (s.setHL v).hl = v := by simp [State.hl]

/-! ### Reads over plain RAM: the value, and nothing changed (R203) -/

theorem State.memRead2_default (s : State) (p : Word) : s.memRead2 p = (s.readWord p, s) := rfl
theorem State.readImm8_default (s : State) : s.readImm8 = (s.imm8, s) := rfl
theorem State.readImm16_default (s : State) : s.readImm16 = (s.imm16, s) := rfl
theorem State.read8_default (r : R8) (s : State) : s.read8 r = (s.getR8 r, s) := by cases r <;> rfl

/-- `imm8` is the byte after the base address (R14). -/
theorem State.imm8_eq (s : State) : s.imm8 = s.readByte (s.pc + 1) := rfl

/-- A 16-bit read is of two bytes, little-endian (R13). -/
theorem State.readWord_eq (s : State) (p : Word) : s.readWord p = concat16 (s.readByte (p + 1)) (s.readByte p) := rfl

/-! The operand of a code: a register, or for `(HL)` the byte at HL (R420). -/

@[simp] theorem State.getR8_b (s : State) : s.getR8 .b = s.b := rfl
@[simp] theorem State.getR8_c (s : State) : s.getR8 .c = s.c := rfl
@[simp] theorem State.getR8_d (s : State) : s.getR8 .d = s.d := rfl
@[simp] theorem State.getR8_e (s : State) : s.getR8 .e = s.e := rfl
@[simp] theorem State.getR8_h (s : State) : s.getR8 .h = s.h := rfl
@[simp] theorem State.getR8_l (s : State) : s.getR8 .l = s.l := rfl
@[simp] theorem State.getR8_a (s : State) : s.getR8 .a = s.a := rfl
@[simp] theorem State.getR8_hlInd (s : State) : s.getR8 .hlInd = s.readByte s.hl := rfl

/-! ### Reads over any bus: only the bus state changes (R202) -/

@[simp] theorem State.memRead2_snd (s : State) (p : Word) (P : Params) :
    (s.memRead2 p P).2 = s.setBus (P.bus.read (P.bus.read s.busState p).2 (p + 1)).2 := rfl
@[simp] theorem State.readImm8_snd (s : State) (P : Params) :
    (s.readImm8 P).2 = s.setBus (P.bus.read s.busState (s.pc + 1)).2 := rfl
@[simp] theorem State.readImm16_snd (s : State) (P : Params) :
    (s.readImm16 P).2 = s.setBus (P.bus.read (P.bus.read s.busState (s.pc + 1)).2 (s.pc + 1 + 1)).2 := rfl
@[simp] theorem State.read8_snd (r : R8) (s : State) (P : Params) :
    (s.read8 r P).2 = s.setBus (if r = .hlInd then (P.bus.read s.busState s.hl).2 else s.busState) := by
  cases r <;> rfl

/-! ### setR8 -/

@[simp] theorem State.setR8_f (s : State) (r : R8) (v : Byte) (P : Params) : (s.setR8 r v P).f = s.f := by cases r <;> rfl
@[simp] theorem State.setR8_sp (s : State) (r : R8) (v : Byte) (P : Params) : (s.setR8 r v P).sp = s.sp := by cases r <;> rfl
@[simp] theorem State.setR8_pc (s : State) (r : R8) (v : Byte) (P : Params) : (s.setR8 r v P).pc = s.pc := by cases r <;> rfl
@[simp] theorem State.setR8_ime (s : State) (r : R8) (v : Byte) (P : Params) : (s.setR8 r v P).ime = s.ime := by cases r <;> rfl
@[simp] theorem State.setR8_imePending (s : State) (r : R8) (v : Byte) (P : Params) : (s.setR8 r v P).imePending = s.imePending := by cases r <;> rfl
@[simp] theorem State.setR8_mode (s : State) (r : R8) (v : Byte) (P : Params) : (s.setR8 r v P).mode = s.mode := by cases r <;> rfl
@[simp] theorem State.setR8_haltBug (s : State) (r : R8) (v : Byte) (P : Params) : (s.setR8 r v P).haltBug = s.haltBug := by cases r <;> rfl
@[simp] theorem State.setR8_irqPending (s : State) (r : R8) (v : Byte) (P : Params) : (s.setR8 r v P).irqPending = s.irqPending := by cases r <;> rfl
@[simp] theorem State.setR8_calls (s : State) (r : R8) (v : Byte) (P : Params) : (s.setR8 r v P).calls = s.calls := by cases r <;> rfl
@[simp] theorem State.setR8_device (s : State) (r : R8) (v : Byte) : (s.setR8 r v).device = s.device := by cases r <;> rfl

/-- Writing an 8-bit operand: what it then holds, and that no other operand of a register or byte of memory changes
(R421). -/
theorem State.wroteR8_setR8 (r : R8) (v : Byte) (s : State) : wroteR8 r v s (s.setR8 r v) := by
  refine ⟨?_, fun r' h1 h2 => ?_, fun p hp => ?_⟩
  · cases r <;> simp [State.setR8, State.hl]
  · cases r' <;> cases r <;> first | rfl | exact absurd rfl h1 | exact absurd rfl h2
  · cases r <;> first | rfl | skip
    have hne : p ≠ s.hl := by simpa using hp
    simp [State.setR8, State.readByte_writeByte, hne]

/-- `wroteR8` sees the 8-bit registers and memory alone. -/
theorem wroteR8_congr {r : R8} {v : Byte} {s t u : State} (h : wroteR8 r v s t) (hm : u.mem = t.mem)
    (hr : ∀ r', r' ≠ .hlInd → u.getR8 r' = t.getR8 r') : wroteR8 r v s u := by
  obtain ⟨h1, h2, h3⟩ := h
  have hh : u.h = t.h := hr .h (by decide)
  have hl : u.l = t.l := hr .l (by decide)
  have hall : ∀ r', u.getR8 r' = t.getR8 r' := by
    intro r'
    by_cases hi : r' = .hlInd
    · subst hi; simp [State.hl, State.readByte_eq, hm, hh, hl]
    · exact hr r' hi
  refine ⟨(hall r).trans h1, fun r' a b => (hall r').trans (h2 r' a b), fun p hp => ?_⟩
  rw [State.readByte_congr hm]; exact h3 p hp

/-! ### setR16 and setR16stk -/

@[simp] theorem State.setR16_a (s : State) (rr : R16) (v : Word) : (s.setR16 rr v).a = s.a := by cases rr <;> rfl
@[simp] theorem State.setR16_f (s : State) (rr : R16) (v : Word) : (s.setR16 rr v).f = s.f := by cases rr <;> rfl
@[simp] theorem State.setR16_pc (s : State) (rr : R16) (v : Word) : (s.setR16 rr v).pc = s.pc := by cases rr <;> rfl
@[simp] theorem State.setR16_ime (s : State) (rr : R16) (v : Word) : (s.setR16 rr v).ime = s.ime := by cases rr <;> rfl
@[simp] theorem State.setR16_imePending (s : State) (rr : R16) (v : Word) : (s.setR16 rr v).imePending = s.imePending := by cases rr <;> rfl
@[simp] theorem State.setR16_mode (s : State) (rr : R16) (v : Word) : (s.setR16 rr v).mode = s.mode := by cases rr <;> rfl
@[simp] theorem State.setR16_haltBug (s : State) (rr : R16) (v : Word) : (s.setR16 rr v).haltBug = s.haltBug := by cases rr <;> rfl
@[simp] theorem State.setR16_mem (s : State) (rr : R16) (v : Word) : (s.setR16 rr v).mem = s.mem := by cases rr <;> rfl
@[simp] theorem State.setR16_device (s : State) (rr : R16) (v : Word) : (s.setR16 rr v).device = s.device := by cases rr <;> rfl
@[simp] theorem State.setR16_irqPending (s : State) (rr : R16) (v : Word) : (s.setR16 rr v).irqPending = s.irqPending := by cases rr <;> rfl
@[simp] theorem State.setR16_calls (s : State) (rr : R16) (v : Word) : (s.setR16 rr v).calls = s.calls := by cases rr <;> rfl

@[simp] theorem State.setR16stk_sp (s : State) (rr : R16stk) (v : Word) : (s.setR16stk rr v).sp = s.sp := by cases rr <;> rfl
@[simp] theorem State.setR16stk_pc (s : State) (rr : R16stk) (v : Word) : (s.setR16stk rr v).pc = s.pc := by cases rr <;> rfl
@[simp] theorem State.setR16stk_ime (s : State) (rr : R16stk) (v : Word) : (s.setR16stk rr v).ime = s.ime := by cases rr <;> rfl
@[simp] theorem State.setR16stk_imePending (s : State) (rr : R16stk) (v : Word) : (s.setR16stk rr v).imePending = s.imePending := by cases rr <;> rfl
@[simp] theorem State.setR16stk_mode (s : State) (rr : R16stk) (v : Word) : (s.setR16stk rr v).mode = s.mode := by cases rr <;> rfl
@[simp] theorem State.setR16stk_haltBug (s : State) (rr : R16stk) (v : Word) : (s.setR16stk rr v).haltBug = s.haltBug := by cases rr <;> rfl
@[simp] theorem State.setR16stk_mem (s : State) (rr : R16stk) (v : Word) : (s.setR16stk rr v).mem = s.mem := by cases rr <;> rfl
@[simp] theorem State.setR16stk_device (s : State) (rr : R16stk) (v : Word) : (s.setR16stk rr v).device = s.device := by cases rr <;> rfl
@[simp] theorem State.setR16stk_irqPending (s : State) (rr : R16stk) (v : Word) : (s.setR16stk rr v).irqPending = s.irqPending := by cases rr <;> rfl
@[simp] theorem State.setR16stk_calls (s : State) (rr : R16stk) (v : Word) : (s.setR16stk rr v).calls = s.calls := by cases rr <;> rfl

/-- Writing a pair: what it then holds, and that no other pair, A or byte of memory changes (R422). -/
theorem State.wroteR16_setR16 (rr : R16) (v : Word) (s : State) : wroteR16 rr v s (s.setR16 rr v) := by
  refine ⟨?_, fun rr' h => ?_, by simp, by simp, by simp⟩
  · cases rr <;> simp [State.getR16, State.setR16]
  · cases rr <;> cases rr' <;> first | rfl | exact absurd rfl h

/-! ### afterMem -/

@[simp] theorem State.afterMem_a (s : State) (m : R16mem) : (s.afterMem m).a = s.a := by cases m <;> rfl
@[simp] theorem State.afterMem_f (s : State) (m : R16mem) : (s.afterMem m).f = s.f := by cases m <;> rfl
@[simp] theorem State.afterMem_b (s : State) (m : R16mem) : (s.afterMem m).b = s.b := by cases m <;> rfl
@[simp] theorem State.afterMem_c (s : State) (m : R16mem) : (s.afterMem m).c = s.c := by cases m <;> rfl
@[simp] theorem State.afterMem_d (s : State) (m : R16mem) : (s.afterMem m).d = s.d := by cases m <;> rfl
@[simp] theorem State.afterMem_e (s : State) (m : R16mem) : (s.afterMem m).e = s.e := by cases m <;> rfl
@[simp] theorem State.afterMem_sp (s : State) (m : R16mem) : (s.afterMem m).sp = s.sp := by cases m <;> rfl
@[simp] theorem State.afterMem_pc (s : State) (m : R16mem) : (s.afterMem m).pc = s.pc := by cases m <;> rfl
@[simp] theorem State.afterMem_ime (s : State) (m : R16mem) : (s.afterMem m).ime = s.ime := by cases m <;> rfl
@[simp] theorem State.afterMem_imePending (s : State) (m : R16mem) : (s.afterMem m).imePending = s.imePending := by cases m <;> rfl
@[simp] theorem State.afterMem_mode (s : State) (m : R16mem) : (s.afterMem m).mode = s.mode := by cases m <;> rfl
@[simp] theorem State.afterMem_haltBug (s : State) (m : R16mem) : (s.afterMem m).haltBug = s.haltBug := by cases m <;> rfl
@[simp] theorem State.afterMem_mem (s : State) (m : R16mem) : (s.afterMem m).mem = s.mem := by cases m <;> rfl
@[simp] theorem State.afterMem_device (s : State) (m : R16mem) : (s.afterMem m).device = s.device := by cases m <;> rfl
@[simp] theorem State.afterMem_irqPending (s : State) (m : R16mem) : (s.afterMem m).irqPending = s.irqPending := by cases m <;> rfl
@[simp] theorem State.afterMem_calls (s : State) (m : R16mem) : (s.afterMem m).calls = s.calls := by cases m <;> rfl

/-! ### The stack -/

@[simp] theorem State.push16_a (s : State) (v : Word) (P : Params) : (s.push16 v P).a = s.a := rfl
@[simp] theorem State.push16_f (s : State) (v : Word) (P : Params) : (s.push16 v P).f = s.f := rfl
@[simp] theorem State.push16_b (s : State) (v : Word) (P : Params) : (s.push16 v P).b = s.b := rfl
@[simp] theorem State.push16_c (s : State) (v : Word) (P : Params) : (s.push16 v P).c = s.c := rfl
@[simp] theorem State.push16_d (s : State) (v : Word) (P : Params) : (s.push16 v P).d = s.d := rfl
@[simp] theorem State.push16_e (s : State) (v : Word) (P : Params) : (s.push16 v P).e = s.e := rfl
@[simp] theorem State.push16_h (s : State) (v : Word) (P : Params) : (s.push16 v P).h = s.h := rfl
@[simp] theorem State.push16_l (s : State) (v : Word) (P : Params) : (s.push16 v P).l = s.l := rfl
@[simp] theorem State.push16_pc (s : State) (v : Word) (P : Params) : (s.push16 v P).pc = s.pc := rfl
@[simp] theorem State.push16_ime (s : State) (v : Word) (P : Params) : (s.push16 v P).ime = s.ime := rfl
@[simp] theorem State.push16_imePending (s : State) (v : Word) (P : Params) : (s.push16 v P).imePending = s.imePending := rfl
@[simp] theorem State.push16_mode (s : State) (v : Word) (P : Params) : (s.push16 v P).mode = s.mode := rfl
@[simp] theorem State.push16_haltBug (s : State) (v : Word) (P : Params) : (s.push16 v P).haltBug = s.haltBug := rfl
@[simp] theorem State.push16_irqPending (s : State) (v : Word) (P : Params) : (s.push16 v P).irqPending = s.irqPending := rfl
@[simp] theorem State.push16_calls (s : State) (v : Word) (P : Params) : (s.push16 v P).calls = s.calls := rfl
@[simp] theorem State.push16_device (s : State) (v : Word) : (s.push16 v).device = s.device := rfl

@[simp] theorem State.pop16_a (s : State) (P : Params) : ((s.pop16 P).2).a = s.a := rfl
@[simp] theorem State.pop16_f (s : State) (P : Params) : ((s.pop16 P).2).f = s.f := rfl
@[simp] theorem State.pop16_b (s : State) (P : Params) : ((s.pop16 P).2).b = s.b := rfl
@[simp] theorem State.pop16_c (s : State) (P : Params) : ((s.pop16 P).2).c = s.c := rfl
@[simp] theorem State.pop16_d (s : State) (P : Params) : ((s.pop16 P).2).d = s.d := rfl
@[simp] theorem State.pop16_e (s : State) (P : Params) : ((s.pop16 P).2).e = s.e := rfl
@[simp] theorem State.pop16_h (s : State) (P : Params) : ((s.pop16 P).2).h = s.h := rfl
@[simp] theorem State.pop16_l (s : State) (P : Params) : ((s.pop16 P).2).l = s.l := rfl
@[simp] theorem State.pop16_pc (s : State) (P : Params) : ((s.pop16 P).2).pc = s.pc := rfl
@[simp] theorem State.pop16_ime (s : State) (P : Params) : ((s.pop16 P).2).ime = s.ime := rfl
@[simp] theorem State.pop16_imePending (s : State) (P : Params) : ((s.pop16 P).2).imePending = s.imePending := rfl
@[simp] theorem State.pop16_mode (s : State) (P : Params) : ((s.pop16 P).2).mode = s.mode := rfl
@[simp] theorem State.pop16_haltBug (s : State) (P : Params) : ((s.pop16 P).2).haltBug = s.haltBug := rfl
@[simp] theorem State.pop16_mem (s : State)  : (s.pop16.2).mem = s.mem := rfl
@[simp] theorem State.pop16_device (s : State)  : (s.pop16.2).device = s.device := rfl
@[simp] theorem State.pop16_irqPending (s : State) (P : Params) : ((s.pop16 P).2).irqPending = s.irqPending := rfl
@[simp] theorem State.pop16_calls (s : State) (P : Params) : ((s.pop16 P).2).calls = s.calls := rfl

theorem sub_one_sub_one (v : Word) : v - 1 - 1 = v - 2 := by
  rw [BitVec.sub_sub]; rfl

@[simp] theorem State.push16_sp (s : State) (v : Word) : (s.push16 v).sp = s.sp - 2 := sub_one_sub_one s.sp

@[simp] theorem State.pop16_sp (s : State) : s.pop16.2.sp = s.sp + 2 := by
  show s.sp + 1 + 1 = s.sp + 2
  rw [BitVec.add_assoc]; rfl

@[simp] theorem State.pop16_fst (s : State) : s.pop16.1 = concat16 (s.readByte (s.sp + 1)) (s.readByte s.sp) := rfl

theorem State.push16_mem (s : State) (v : Word) :
    (s.push16 v).mem =
      Memory.write (Memory.write s.mem (s.sp - 1).toNat (hiByte v)) (s.sp - 2).toNat (loByte v) := by
  rw [← sub_one_sub_one]; rfl

theorem State.push16_readByte (s : State) (v : Word) (p : Word) :
    (s.push16 v).readByte p =
      if p = s.sp - 2 then loByte v else if p = s.sp - 1 then hiByte v else s.readByte p := by
  have e : (s.push16 v).readByte p = (((s.writeByte (s.sp - 1) (hiByte v))).writeByte (s.sp - 2) (loByte v)).readByte p :=
    State.readByte_congr (State.push16_mem s v) p
  rw [e, State.readByte_writeByte, State.readByte_writeByte]

/-- A push, said as what it leaves (R430). -/
theorem State.pushedWord_push16 (s : State) (v : Word) : pushedWord v s (s.push16 v) := by
  have hne : s.sp - 1 ≠ s.sp - 2 := by intro h; bv_omega
  refine ⟨by simp, ?_, ?_, fun p hp => ?_⟩
  · rw [State.push16_readByte, if_neg hne, if_pos rfl]
  · rw [State.push16_readByte, if_pos rfl]
  · simp only [List.mem_cons, List.not_mem_nil, or_false, not_or] at hp
    rw [State.push16_readByte, if_neg hp.2, if_neg hp.1]

theorem State.wf_push16 (s : State) (v : Word) (h : Memory.wf s.mem) : Memory.wf (s.push16 v).mem := by
  rw [State.push16_mem]
  exact Memory.wf_write _ _ _ (s.sp - 2).isLt (Memory.wf_write _ _ _ (s.sp - 1).isLt h)

theorem State.wf_setR8 (s : State) (r : R8) (v : Byte) (h : Memory.wf s.mem) : Memory.wf (s.setR8 r v).mem := by
  cases r <;> first | exact h | exact State.wf_writeByte _ _ _ h

theorem State.wf_writeWord (s : State) (p v : Word) (h : Memory.wf s.mem) : Memory.wf (s.writeWord p v).mem :=
  State.wf_writeByte _ _ _ (State.wf_writeByte _ _ _ h)

end Sys2Proof.Machine
end

