-- ==== Sys2Proof/Laws/Arith.lean ====
section
/-! SUPPORT. The results and flags of Machine/Flags.lean and the addresses of Machine/Operands.lean as arithmetic over the
numbers, and what the writing operations leave, each said once. -/

namespace Sys2Proof.Machine

/-! ### Words from bytes -/

/-- `concat16(hi, lo) = hi * 256 + lo` (R11). -/
theorem concat16_eq (hi lo : Byte) : concat16 hi lo = BitVec.ofNat 16 (hi.toNat * 256 + lo.toNat) := by
  apply BitVec.eq_of_toNat_eq
  have := hi.isLt; have := lo.isLt
  rw [concat16, BitVec.toNat_append, ← Nat.shiftLeft_add_eq_or_of_lt lo.isLt, Nat.shiftLeft_eq, BitVec.toNat_ofNat]
  omega

/-- A 16-bit immediate (R14, R210). -/
theorem State.imm16_eq (s : State) :
    s.imm16 = BitVec.ofNat 16 ((s.readByte (s.pc + 2)).toNat * 256 + (s.readByte (s.pc + 1)).toNat) := by
  rw [← concat16_eq, show s.pc + 2 = s.pc + 1 + 1 by rw [BitVec.add_assoc]; rfl]; rfl

/-- A high-page address is an offset from 0xFF00 (R319). -/
theorem highPage_eq (n : Byte) : highPage n = BitVec.ofNat 16 (0xFF00 + n.toNat) := by revert n; decide

/-- A length added to PC modulo 65536 (R131). -/
theorem ofNat_toNat_add (p : Word) (n : Nat) : BitVec.ofNat 16 (p.toNat + n) = p + BitVec.ofNat 16 n := by
  apply BitVec.eq_of_toNat_eq; simp

/-- One less modulo 65536. -/
theorem ofInt_toNat_sub_one (p : Word) : BitVec.ofInt 16 (p.toNat - 1) = p - 1 := by
  rw [Int.sub_eq_add_neg, BitVec.ofInt_add, BitVec.sub_eq_add_neg]; congr 1; simp

/-- A signed byte added modulo 65536 (R11, R319). -/
theorem add_sext16 (p : Word) (n : Nat) (v : Byte) :
    p + BitVec.ofNat 16 n + sext16 v = BitVec.ofInt 16 (p.toNat + n + v.toInt) := by
  have h : sext16 v = BitVec.ofInt 16 v.toInt := by revert v; decide
  rw [h, BitVec.ofInt_add, BitVec.ofInt_add]; congr 2; simp

/-! ### Results and flags -/

/-- ADD and ADC (R510, R515) over the numbers. -/
theorem addBytes_eq (a v : Byte) (c : Bool) : addBytes a v c =
    (BitVec.ofNat 8 (a.toNat + v.toNat + c.toNat),
      ⟨decide ((a.toNat + v.toNat + c.toNat) % 256 = 0), false,
        decide (a.toNat % 16 + v.toNat % 16 + c.toNat > 0xF), decide (a.toNat + v.toNat + c.toNat > 0xFF)⟩) := by
  have low : ∀ x : Byte, (x &&& 0xF#8).toNat = x.toNat % 16 := by decide
  unfold addBytes; simp [low]
  rw [Bool.eq_iff_iff]; simp [← BitVec.toNat_inj]

/-- SUB, SBC and CP (R520, R525, R545) over the numbers. -/
theorem subBytes_eq (a v : Byte) (c : Bool) : subBytes a v c =
    (BitVec.ofInt 8 ((a.toNat : Int) - v.toNat - c.toNat),
      ⟨decide (((a.toNat : Int) - v.toNat - c.toNat) % 256 = 0), true,
        decide (a.toNat % 16 < v.toNat % 16 + c.toNat), decide (a.toNat < v.toNat + c.toNat)⟩) := by
  have low : ∀ x : Byte, (x &&& 0xF#8).toNat = x.toNat % 16 := by decide
  unfold subBytes; simp [low]
  rw [Bool.eq_iff_iff]; simp [← BitVec.toNat_inj]; omega

/-! ### What the writing operations leave -/

/-- `pop16` changes SP alone (R431). -/
theorem State.pop16_snd (s : State) : s.pop16.2 = { s with sp := s.sp + 2 } := by
  rw [show s.sp + 2 = s.sp + 1 + 1 by rw [BitVec.add_assoc]; rfl]; rfl

/-- A state whose memory is that of one byte written. -/
theorem sameMemoryExcept_of_write {s t : State} {p : Word} {v : Byte} (h : t.mem = (s.writeByte p v).mem) :
    t.readByte p = v ∧ sameMemoryExcept [p] s t := by
  refine ⟨by rw [State.readByte_congr h]; simp, fun q hq => ?_⟩
  rw [State.readByte_congr h, State.readByte_writeByte, if_neg (by simpa using hq)]

/-- A push is seen in SP and memory alone. -/
theorem pushedWord_congr {v : Word} {s t u : State} (h : pushedWord v s t) (hsp : u.sp = t.sp) (hm : u.mem = t.mem) :
    pushedWord v s u := by
  unfold pushedWord sameMemoryExcept at *
  simpa only [hsp, State.readByte_congr hm] using h

/-- An 8-bit operand written with the flags, and PC advanced: everything the byte instructions leave. -/
theorem State.setF_setR8_advance (r : R8) (f : Flags) (v : Byte) (n : Nat) (s : State) :
    let t := ((s.setF f).setR8 r v).advance n
    wroteR8 r v s t ∧ t.f = f ∧ t.pc = s.pc + BitVec.ofNat 16 n ∧ t.sp = s.sp ∧ sameControl s t := by
  refine ⟨wroteR8_congr (State.wroteR8_setR8 r v s) ?_ fun r' h => ?_, ?_⟩
  · cases r <;> rfl
  · cases r' <;> first | exact absurd rfl h | (cases r <;> rfl)
  · cases r <;> exact ⟨rfl, rfl, rfl, rfl, rfl, rfl, rfl, rfl, rfl, rfl⟩

/-- The same where the flags are written after the operand. -/
theorem State.setR8_setF_advance (r : R8) (f : Flags) (v : Byte) (n : Nat) (s : State) :
    ((s.setR8 r v).setF f).advance n = ((s.setF f).setR8 r v).advance n := by cases r <;> rfl

/-- The same where no flag is written. -/
theorem State.setR8_advance (r : R8) (v : Byte) (n : Nat) (s : State) :
    (s.setR8 r v).advance n = ((s.setF s.f).setR8 r v).advance n := by cases r <;> rfl

end Sys2Proof.Machine
end

