-- ==== Sys2Proof/Laws/Bus.lean ====
section
/-! SUPPORT. The shared operations over the recording bus (Safety.lean): each does what it does over plain RAM and writes its
accesses down in order. -/

namespace Sys2Proof.Machine

/-- The state with these accesses written down. -/
def State.note (l : List Access) (s : State) : State := { s with device := s.device ++ l.map Access.code }

/-- Different accesses have different numbers. -/
theorem Access.code_inj {x y : Access} (h : x.code = y.code) : x = y := by
  have word : ∀ a : Word, a.toNat < 65536 := fun a => a.isLt
  have byte : ∀ v : Byte, v.toNat < 256 := fun v => v.isLt
  cases x with
  | read a =>
    cases y with
    | read b => exact congrArg _ (BitVec.eq_of_toNat_eq h)
    | write b w => have := word a; simp only [Access.code] at h; omega
  | write a v =>
    cases y with
    | read b => have := word b; simp only [Access.code] at h; omega
    | write b w =>
      have := byte v; have := byte w
      simp only [Access.code] at h
      rw [BitVec.eq_of_toNat_eq (by omega : a.toNat = b.toNat), BitVec.eq_of_toNat_eq (by omega : v.toNat = w.toNat)]

/-! ### Writing down nothing, and twice -/

@[simp] theorem State.note_nil (s : State) : s.note [] = s := by simp [State.note]
@[simp] theorem State.note_note (s : State) (l l' : List Access) : (s.note l).note l' = s.note (l ++ l') := by
  simp [State.note]

/-! ### What is written down is seen in the device state alone -/

@[simp] theorem State.note_a (s : State) (k : List Access) : (s.note k).a = s.a := rfl
@[simp] theorem State.note_f (s : State) (k : List Access) : (s.note k).f = s.f := rfl
@[simp] theorem State.note_b (s : State) (k : List Access) : (s.note k).b = s.b := rfl
@[simp] theorem State.note_c (s : State) (k : List Access) : (s.note k).c = s.c := rfl
@[simp] theorem State.note_d (s : State) (k : List Access) : (s.note k).d = s.d := rfl
@[simp] theorem State.note_e (s : State) (k : List Access) : (s.note k).e = s.e := rfl
@[simp] theorem State.note_h (s : State) (k : List Access) : (s.note k).h = s.h := rfl
@[simp] theorem State.note_l (s : State) (k : List Access) : (s.note k).l = s.l := rfl
@[simp] theorem State.note_sp (s : State) (k : List Access) : (s.note k).sp = s.sp := rfl
@[simp] theorem State.note_pc (s : State) (k : List Access) : (s.note k).pc = s.pc := rfl
@[simp] theorem State.note_ime (s : State) (k : List Access) : (s.note k).ime = s.ime := rfl
@[simp] theorem State.note_imePending (s : State) (k : List Access) : (s.note k).imePending = s.imePending := rfl
@[simp] theorem State.note_mode (s : State) (k : List Access) : (s.note k).mode = s.mode := rfl
@[simp] theorem State.note_haltBug (s : State) (k : List Access) : (s.note k).haltBug = s.haltBug := rfl
@[simp] theorem State.note_mem (s : State) (k : List Access) : (s.note k).mem = s.mem := rfl
@[simp] theorem State.note_irqPending (s : State) (k : List Access) : (s.note k).irqPending = s.irqPending := rfl
@[simp] theorem State.note_calls (s : State) (k : List Access) : (s.note k).calls = s.calls := rfl
@[simp] theorem State.note_bc (s : State) (k : List Access) : (s.note k).bc = s.bc := rfl
@[simp] theorem State.note_de (s : State) (k : List Access) : (s.note k).de = s.de := rfl
@[simp] theorem State.note_hl (s : State) (k : List Access) : (s.note k).hl = s.hl := rfl
@[simp] theorem State.note_af (s : State) (k : List Access) : (s.note k).af = s.af := rfl
@[simp] theorem State.note_readByte (s : State) (k : List Access) (p : Word) : (s.note k).readByte p = s.readByte p := rfl

@[simp] theorem State.note_getR8 (s : State) (k : List Access) (r : R8) : (s.note k).getR8 r = s.getR8 r := by cases r <;> rfl
@[simp] theorem State.note_getR16 (s : State) (k : List Access) (rr : R16) : (s.note k).getR16 rr = s.getR16 rr := by cases rr <;> rfl
@[simp] theorem State.note_getR16stk (s : State) (k : List Access) (rr : R16stk) :
    (s.note k).getR16stk rr = s.getR16stk rr := by cases rr <;> rfl
@[simp] theorem State.note_memAddr (s : State) (k : List Access) (m : R16mem) :
    (s.note k).memAddr m = s.memAddr m := by cases m <;> rfl
@[simp] theorem State.note_imm8 (s : State) (k : List Access) : (s.note k).imm8 = s.imm8 := rfl
@[simp] theorem State.note_imm16 (s : State) (k : List Access) : (s.note k).imm16 = s.imm16 := rfl

/-! ### Register updates pass it by -/

@[simp] theorem State.jumpTo_note (s : State) (k : List Access) (v : Word) : (s.note k).jumpTo v = (s.jumpTo v).note k := rfl
@[simp] theorem State.advance_note (s : State) (k : List Access) (n : Nat) : (s.note k).advance n = (s.advance n).note k := rfl
@[simp] theorem State.setA_note (s : State) (k : List Access) (v : Byte) : (s.note k).setA v = (s.setA v).note k := rfl
@[simp] theorem State.setF_note (s : State) (k : List Access) (v : Flags) : (s.note k).setF v = (s.setF v).note k := rfl
@[simp] theorem State.setSp_note (s : State) (k : List Access) (v : Word) : (s.note k).setSp v = (s.setSp v).note k := rfl
@[simp] theorem State.setMode_note (s : State) (k : List Access) (v : Mode) : (s.note k).setMode v = (s.setMode v).note k := rfl
@[simp] theorem State.setIme_note (s : State) (k : List Access) (v : Bool) : (s.note k).setIme v = (s.setIme v).note k := rfl
@[simp] theorem State.setHL_note (s : State) (k : List Access) (v : Word) : (s.note k).setHL v = (s.setHL v).note k := rfl
@[simp] theorem State.afterMem_note (s : State) (k : List Access) (m : R16mem) :
    (s.note k).afterMem m = (s.afterMem m).note k := by cases m <;> rfl
@[simp] theorem State.setR16_note (s : State) (k : List Access) (rr : R16) (v : Word) :
    (s.note k).setR16 rr v = (s.setR16 rr v).note k := by cases rr <;> rfl
@[simp] theorem State.setR16stk_note (s : State) (k : List Access) (rr : R16stk) (v : Word) :
    (s.note k).setR16stk rr v = (s.setR16stk rr v).note k := by cases rr <;> rfl

/-! ### The accesses, each written down after what was there -/

theorem State.memRead_recording (s : State) (p : Word) :
    s.memRead p Params.recording = (s.readByte p, s.note [.read p]) := rfl

theorem State.writeByte_recording (s : State) (k : List Access) (p : Word) (v : Byte) :
    (s.note k).writeByte p v Params.recording = (s.writeByte p v).note (k ++ [.write p v]) := by
  rw [← State.note_note]; rfl

theorem State.memRead2_recording (s : State) (p : Word) :
    s.memRead2 p Params.recording = (s.readWord p, s.note [.read p, .read (p + 1)]) := by
  simp [State.memRead2, State.memRead_recording, State.readWord_eq]

/-- `imm8` (R14). -/
theorem State.readImm8_recording (s : State) :
    s.readImm8 Params.recording = (s.imm8, s.note [.read (s.pc + 1)]) := rfl

/-- `imm16` (R14): low byte first. -/
theorem State.readImm16_recording (s : State) :
    s.readImm16 Params.recording = (s.imm16, s.note [.read (s.pc + 1), .read (s.pc + 1 + 1)]) :=
  State.memRead2_recording s (s.pc + 1)

/-- `read8(r)` (R420). -/
theorem State.read8_recording (s : State) (r : R8) :
    s.read8 r Params.recording = (s.getR8 r, s.note (operandRead r s)) := by
  cases r <;> simp [State.read8, operandRead, State.memRead_recording]

/-- `write8(r, v)` (R421). -/
theorem State.setR8_recording (s : State) (k : List Access) (r : R8) (v : Byte) :
    (s.note k).setR8 r v Params.recording = (s.setR8 r v).note (k ++ operandWrite r v s) := by
  cases r <;> simp [State.setR8, operandWrite, State.writeByte_recording] <;> rfl

/-- A word written low byte first (R211). -/
theorem State.writeWord_recording (s : State) (k : List Access) (p v : Word) :
    (s.note k).writeWord p v Params.recording =
      (s.writeWord p v).note (k ++ [.write p (loByte v), .write (p + 1) (hiByte v)]) := by
  simp [State.writeWord, State.writeByte_recording]

/-- `push16(v)` (R430). -/
theorem State.push16_recording (s : State) (k : List Access) (v : Word) :
    (s.note k).push16 v Params.recording = (s.push16 v).note (k ++ pushWrites v s) := by
  rw [pushWrites, ← sub_one_sub_one]
  simp [State.push16, State.writeByte_recording]

/-- `pop16()` (R431). -/
theorem State.pop16_recording (s : State) :
    s.pop16 Params.recording = (s.pop16.1, s.pop16.2.note (popReads s)) := by
  simp [State.pop16, State.memRead_recording, popReads]
  rfl

end Sys2Proof.Machine
end

