-- ==== Sys2Proof/Laws/Exec.lean ====
section
/-! SUPPORT. The correspondence of rows and variants, and one lemma per variant: what `execOn` is on every row of
that variant, in terms of the shared operation; and what `exec` does over plain RAM. Later proofs cite these and never unfold
`exec`. -/

namespace Sys2Proof

/-! ### Rows and variants (R341) -/

/-- Every row is the row of its variant. -/
@[simp] theorem Instr.instr_form (i : Instr) : i.form.instr = i := by cases i <;> rfl

/-- A well-formed variant is the variant of its row. -/
theorem Form.form_instr {f : Form} (h : f.wf = true) : f.instr.form = f := by
  cases f with
  | ldR8R8 dst src => cases dst <;> cases src <;> first | rfl | exact absurd h (by decide)
  | ldR8D8 r | incR8 r | decR8 r => cases r <;> rfl
  | ldAM m | ldMA m => cases m <;> rfl
  | ldR16D16 rr | addHLR16 rr | incR16 rr | decR16 rr | push rr | pop rr => cases rr <;> rfl
  | aluR8 op r => cases op <;> cases r <;> rfl
  | aluD8 op => cases op <;> rfl
  | rot op r => cases op <;> cases r <;> rfl
  | testBit b r | resetBit b r | setBit b r => fin_cases b <;> cases r <;> rfl
  | jp t | jr t | call t => rcases t with (_ | _ | _ | _) | _ <;> rfl
  | retCC cc => cases cc <;> rfl
  | rst n => fin_cases n <;> rfl
  | nop | stop | halt | di | ei | ldAA16 | ldA16A | ldhAA8 | ldhA8A | ldhAC | ldhCA | ldA16SP | ldSPHL | ldHLSPe8
  | daa | cpl | scf | ccf | addSPe8 | rlca | rrca | rla | rra | jpHL | ret | reti => rfl

/-- A row's variant is well-formed: no row is LD (HL),(HL). -/
theorem Instr.wf_form (i : Instr) : i.form.wf = true := by cases i <;> rfl

end Sys2Proof

namespace Sys2Proof.Machine

/-! ### What exec is, by variant, over any parameters (R6) -/

/-- `exec` is `execOn` with every parameter at its default. -/
theorem execOn_default (i : Instr) (s : State) : execOn Params.default i s = exec i s := by cases i <;> rfl

theorem exec_form_ldR8R8 (dst src : R8) (h : (Form.ldR8R8 dst src).wf = true) (s : State) (P : Params) :
    execOn P (Form.ldR8R8 dst src).instr s = ldR8R8 dst src s P := by
  cases dst <;> cases src <;> first | rfl | exact absurd h (by decide)

theorem exec_form_ldR8D8 (dst : R8) (s : State) (P : Params) :
    execOn P (Form.ldR8D8 dst).instr s = ldR8D8 dst s P := by cases dst <;> rfl

theorem exec_form_ldAM (m : R16mem) (s : State) (P : Params) :
    execOn P (Form.ldAM m).instr s = ldAM m s P := by cases m <;> rfl

theorem exec_form_ldMA (m : R16mem) (s : State) (P : Params) :
    execOn P (Form.ldMA m).instr s = ldMA m s P := by cases m <;> rfl

theorem exec_form_ldR16D16 (rr : R16) (s : State) (P : Params) :
    execOn P (Form.ldR16D16 rr).instr s = ldR16D16 rr s P := by cases rr <;> rfl

theorem exec_form_push (rr : R16stk) (s : State) (P : Params) :
    execOn P (Form.push rr).instr s = pushPair rr s P := by cases rr <;> rfl

theorem exec_form_pop (rr : R16stk) (s : State) (P : Params) :
    execOn P (Form.pop rr).instr s = popPair rr s P := by cases rr <;> rfl

theorem exec_form_aluR8 (op : AluOp) (src : R8) (s : State) (P : Params) :
    execOn P (Form.aluR8 op src).instr s = aluR8 op src s P := by cases op <;> cases src <;> rfl

theorem exec_form_aluD8 (op : AluOp) (s : State) (P : Params) :
    execOn P (Form.aluD8 op).instr s = aluD8 op s P := by cases op <;> rfl

theorem exec_form_incR8 (r : R8) (s : State) (P : Params) :
    execOn P (Form.incR8 r).instr s = incR8 r s P := by cases r <;> rfl

theorem exec_form_decR8 (r : R8) (s : State) (P : Params) :
    execOn P (Form.decR8 r).instr s = decR8 r s P := by cases r <;> rfl

theorem exec_form_addHLR16 (rr : R16) (s : State) (P : Params) :
    execOn P (Form.addHLR16 rr).instr s = addHLR16 rr s := by cases rr <;> rfl

theorem exec_form_incR16 (rr : R16) (s : State) (P : Params) :
    execOn P (Form.incR16 rr).instr s = incR16 rr s := by cases rr <;> rfl

theorem exec_form_decR16 (rr : R16) (s : State) (P : Params) :
    execOn P (Form.decR16 rr).instr s = decR16 rr s := by cases rr <;> rfl

theorem exec_form_rot (op : RotOp) (r : R8) (s : State) (P : Params) :
    execOn P (Form.rot op r).instr s = rotateR8 op r s P := by cases op <;> cases r <;> rfl

theorem exec_form_testBit (b : Fin 8) (r : R8) (s : State) (P : Params) :
    execOn P (Form.testBit b r).instr s = testBitR8 b r s P := by fin_cases b <;> cases r <;> rfl

theorem exec_form_resetBit (b : Fin 8) (r : R8) (s : State) (P : Params) :
    execOn P (Form.resetBit b r).instr s = resetBitR8 b r s P := by fin_cases b <;> cases r <;> rfl

theorem exec_form_setBit (b : Fin 8) (r : R8) (s : State) (P : Params) :
    execOn P (Form.setBit b r).instr s = setBitR8 b r s P := by fin_cases b <;> cases r <;> rfl

theorem exec_form_jp (t : JumpTest) (s : State) (P : Params) :
    execOn P (Form.jp t).instr s = jumpAbs t s P := by rcases t with (_ | _ | _ | _) | _ <;> rfl

theorem exec_form_jr (t : JumpTest) (s : State) (P : Params) :
    execOn P (Form.jr t).instr s = jumpRel t s P := by rcases t with (_ | _ | _ | _) | _ <;> rfl

theorem exec_form_call (t : JumpTest) (s : State) (P : Params) :
    execOn P (Form.call t).instr s = callAbs t s P := by rcases t with (_ | _ | _ | _) | _ <;> rfl

theorem exec_form_retCC (cc : Cond) (s : State) (P : Params) :
    execOn P (Form.retCC cc).instr s = returnIf (.cond cc) s P := by cases cc <;> rfl

theorem exec_form_rst (n : Fin 8) (s : State) (P : Params) :
    execOn P (Form.rst n).instr s = restart n s P := by fin_cases n <;> rfl

theorem exec_form_ret (s : State) (P : Params) :
    execOn P Form.ret.instr s = returnIf .always s P := rfl

theorem exec_form_reti (s : State) (P : Params) :
    execOn P Form.reti.instr s = .next (s.returnFromInterrupt P) := rfl

theorem exec_form_ldAA16 (s : State) (P : Params) :
    execOn P Form.ldAA16.instr s = exec_ld_A_atA16 s P := rfl

theorem exec_form_ldA16A (s : State) (P : Params) :
    execOn P Form.ldA16A.instr s = exec_ld_atA16_A s P := rfl

theorem exec_form_ldhAA8 (s : State) (P : Params) :
    execOn P Form.ldhAA8.instr s = exec_ldh_A_atA8 s P := rfl

theorem exec_form_ldhA8A (s : State) (P : Params) :
    execOn P Form.ldhA8A.instr s = exec_ldh_atA8_A s P := rfl

theorem exec_form_ldhAC (s : State) (P : Params) :
    execOn P Form.ldhAC.instr s = loadA (highPage s.c) 1 s P := rfl

theorem exec_form_ldhCA (s : State) (P : Params) :
    execOn P Form.ldhCA.instr s = storeA (highPage s.c) 1 s P := rfl

theorem exec_form_ldA16SP (s : State) (P : Params) :
    execOn P Form.ldA16SP.instr s = exec_ld_atA16_SP s P := rfl

theorem exec_form_ldSPHL (s : State) (P : Params) :
    execOn P Form.ldSPHL.instr s = exec_ld_SP_HL s P := rfl

theorem exec_form_ldHLSPe8 (s : State) (P : Params) :
    execOn P Form.ldHLSPe8.instr s = exec_ld_HL_SPe8 s P := rfl

theorem exec_form_addSPe8 (s : State) (P : Params) :
    execOn P Form.addSPe8.instr s = exec_add_SP_e8 s P := rfl

theorem exec_form_jpHL (s : State) (P : Params) :
    execOn P Form.jpHL.instr s = .next (s.jumpTo s.hl) := rfl

theorem exec_form_daa (s : State) (P : Params) :
    execOn P Form.daa.instr s = exec_daa s P := rfl

theorem exec_form_cpl (s : State) (P : Params) :
    execOn P Form.cpl.instr s = exec_cpl s P := rfl

theorem exec_form_scf (s : State) (P : Params) :
    execOn P Form.scf.instr s = exec_scf s P := rfl

theorem exec_form_ccf (s : State) (P : Params) :
    execOn P Form.ccf.instr s = exec_ccf s P := rfl

theorem exec_form_rlca (s : State) (P : Params) :
    execOn P Form.rlca.instr s = rotateA .rlc s := rfl

theorem exec_form_rrca (s : State) (P : Params) :
    execOn P Form.rrca.instr s = rotateA .rrc s := rfl

theorem exec_form_rla (s : State) (P : Params) :
    execOn P Form.rla.instr s = rotateA .rl s := rfl

theorem exec_form_rra (s : State) (P : Params) :
    execOn P Form.rra.instr s = rotateA .rr s := rfl

theorem exec_form_nop (s : State) (P : Params) :
    execOn P Form.nop.instr s = exec_nop s P := rfl

theorem exec_form_stop (s : State) (P : Params) :
    execOn P Form.stop.instr s = exec_stop s P := rfl

theorem exec_form_halt (s : State) (P : Params) :
    execOn P Form.halt.instr s = exec_halt s P := rfl

theorem exec_form_di (s : State) (P : Params) :
    execOn P Form.di.instr s = exec_di s P := rfl

theorem exec_form_ei (s : State) (P : Params) :
    execOn P Form.ei.instr s = exec_ei s P := rfl

/-! ### What exec does over plain RAM, said once for every instruction -/

/-- The state an instruction of a variant answers over plain RAM. -/
def formEffect (f : Form) (s : State) : State :=
  match f with
  | .nop => s.advance 1
  | .stop => (s.setMode .stopped).advance 2
  | .halt =>
    if s.haltStays then s else if s.haltBugs then (s.setHaltBug true).advance 1 else (s.setMode .halted).advance 1
  | .di => ((s.setIme false).setImePending false).advance 1
  | .ei => (s.setImePending true).advance 1
  | .ldR8R8 dst src => (s.setR8 dst (s.getR8 src)).advance 1
  | .ldR8D8 dst => (s.setR8 dst s.imm8).advance 2
  | .ldAM m => ((s.setA (s.readByte (s.memAddr m))).afterMem m).advance 1
  | .ldMA m => ((s.writeByte (s.memAddr m) s.a).afterMem m).advance 1
  | .ldAA16 => (s.setA (s.readByte s.imm16)).advance 3
  | .ldA16A => (s.writeByte s.imm16 s.a).advance 3
  | .ldhAA8 => (s.setA (s.readByte (highPage s.imm8))).advance 2
  | .ldhA8A => (s.writeByte (highPage s.imm8) s.a).advance 2
  | .ldhAC => (s.setA (s.readByte (highPage s.c))).advance 1
  | .ldhCA => (s.writeByte (highPage s.c) s.a).advance 1
  | .ldR16D16 rr => (s.setR16 rr s.imm16).advance 3
  | .ldA16SP => (s.writeWord s.imm16 s.sp).advance 3
  | .ldSPHL => (s.setSp s.hl).advance 1
  | .ldHLSPe8 => ((s.setF (addSigned s.sp s.imm8).2).setHL (addSigned s.sp s.imm8).1).advance 2
  | .push rr => (s.push16 (s.getR16stk rr)).advance 1
  | .pop rr => ((s.pop16.2).setR16stk rr s.pop16.1).advance 1
  | .aluR8 op src => let r := alu op s.a (s.getR8 src) s.f.c; ((s.setA r.1).setF r.2).advance 1
  | .aluD8 op => let r := alu op s.a s.imm8 s.f.c; ((s.setA r.1).setF r.2).advance 2
  | .incR8 r => let x := incByte (s.getR8 r) s.f; ((s.setF x.2).setR8 r x.1).advance 1
  | .decR8 r => let x := decByte (s.getR8 r) s.f; ((s.setF x.2).setR8 r x.1).advance 1
  | .daa => let x := decimalAdjust s.a s.f; ((s.setA x.1).setF x.2).advance 1
  | .cpl => ((s.setA (~~~s.a)).setF ⟨s.f.z, true, true, s.f.c⟩).advance 1
  | .scf => (s.setF ⟨s.f.z, false, false, true⟩).advance 1
  | .ccf => (s.setF ⟨s.f.z, false, false, !s.f.c⟩).advance 1
  | .addHLR16 rr => let x := addWords s.hl (s.getR16 rr) s.f; ((s.setF x.2).setHL x.1).advance 1
  | .incR16 rr => (s.setR16 rr (s.getR16 rr + 1)).advance 1
  | .decR16 rr => (s.setR16 rr (s.getR16 rr - 1)).advance 1
  | .addSPe8 => ((s.setF (addSigned s.sp s.imm8).2).setSp (addSigned s.sp s.imm8).1).advance 2
  | .rlca => let x := rotate .rlc s.a s.f.c; ((s.setA x.1).setF (accRotateFlags x.2)).advance 1
  | .rrca => let x := rotate .rrc s.a s.f.c; ((s.setA x.1).setF (accRotateFlags x.2)).advance 1
  | .rla => let x := rotate .rl s.a s.f.c; ((s.setA x.1).setF (accRotateFlags x.2)).advance 1
  | .rra => let x := rotate .rr s.a s.f.c; ((s.setA x.1).setF (accRotateFlags x.2)).advance 1
  | .rot op r => let x := rotate op (s.getR8 r) s.f.c; ((s.setR8 r x.1).setF (rotateFlags x.1 x.2)).advance 2
  | .testBit b r => (s.setF (bitTestFlags (s.getR8 r) b s.f)).advance 2
  | .resetBit b r => (s.setR8 r (s.getR8 r &&& ~~~bitMask b)).advance 2
  | .setBit b r => (s.setR8 r (s.getR8 r ||| bitMask b)).advance 2
  | .jp t => if jumpTestHolds t s.f then s.jumpTo s.imm16 else s.advance 3
  | .jpHL => s.jumpTo s.hl
  | .jr t => if jumpTestHolds t s.f then s.jumpTo (s.pc + 2 + sext16 s.imm8) else s.advance 2
  | .call t => if jumpTestHolds t s.f then (s.push16 (s.pc + 3)).jumpTo s.imm16 else s.advance 3
  | .retCC cc => if jumpTestHolds (.cond cc) s.f then s.pop16.2.jumpTo s.pop16.1 else s.advance 1
  | .ret => s.pop16.2.jumpTo s.pop16.1
  | .reti => (s.pop16.2.jumpTo s.pop16.1).setIme true
  | .rst n => (s.push16 (s.pc + 1)).jumpTo (BitVec.ofNat 16 (n.val * 8))

/-- HALT's three outcomes (R1110). -/
theorem exec_halt_effect (s : State) : exec .halt s = .next (formEffect .halt s) := by
  show exec_halt s = _
  unfold exec_halt formEffect State.haltStays State.haltBugs
  cases s.ime <;> cases s.imePending <;> cases s.irqPending <;> rfl

/-- Every instruction answers a next state over plain RAM: this one. -/
theorem exec_effect (i : Instr) (s : State) : exec i s = .next (formEffect i.form s) := by
  by_cases h : i = .halt
  · subst h; exact exec_halt_effect s
  cases i <;> first | rfl | exact absurd rfl h

/-- The same, by variant. -/
theorem exec_instr {f : Form} (h : f.wf = true) (s : State) : exec f.instr s = .next (formEffect f s) := by
  rw [exec_effect, Form.form_instr h]

/-- An instruction completes over any bus: every meaning answers a next state. -/
theorem execOn_next (P : Params) (i : Instr) (s : State) : ∃ t, execOn P i s = .next t := by
  by_cases h : i = .halt
  · subst h
    show ∃ t, exec_halt s P = .next t
    unfold exec_halt
    split
    · exact ⟨_, rfl⟩
    · split
      · split <;> exact ⟨_, rfl⟩
      · split <;> exact ⟨_, rfl⟩
  · cases i <;> first | exact ⟨_, rfl⟩ | exact absurd rfl h

end Sys2Proof.Machine
end

