-- ==== Sys2Proof/Laws/Engine.lean ====
section
/-! SUPPORT. What the step loop and the embedder's operations can do, said once: over any parameters (R6) where that costs
nothing, and over plain RAM in terms of `exec`. -/

namespace Sys2Proof.Machine

/-! ### The machine's outcome of an operation -/

/-- The machine answers a next state exactly where the operation answers that state with a reply that is no decode
failure. -/
theorem outcomeOf_next {x : CallResult} {t : State} :
    outcomeOf x = .next t ↔ ∃ r, x = .next (t, r) ∧ ∀ rep, r ≠ .decodeFailure rep := by
  constructor
  · intro h
    rcases x with ⟨u, r⟩ | r | r
    · cases r <;> simp_all [outcomeOf]
    · simp [outcomeOf] at h
    · simp [outcomeOf] at h
  · rintro ⟨r, rfl, hr⟩
    cases r <;> first | rfl | exact absurd rfl (hr _)

/-- A step with no call waiting is a `step` of the core with the line as it stands. -/
theorem stepOn_no_calls {s : State} (P : Params) (h : s.calls = []) : stepOn P s = outcomeOf (stepMode s P) := by
  simp [stepOn, nextOperation, h]
theorem step_no_calls {s : State} (h : s.calls = []) : step s = outcomeOf (stepMode s) := stepOn_no_calls _ h

/-- A step with a call waiting is that call. -/
theorem stepOn_call {s : State} {c : HostCall} {rest : List HostCall} (P : Params) (h : s.calls = c :: rest) :
    stepOn P s = outcomeOf (hostCall c { s with calls := rest } P) := by
  simp [stepOn, nextOperation, h]
theorem step_call {s : State} {c : HostCall} {rest : List HostCall} (h : s.calls = c :: rest) :
    step s = outcomeOf (hostCall c { s with calls := rest }) := stepOn_call _ h

/-! ### A step in mode Running -/

/-- What the fetch stage reads over plain RAM (R410, R411). -/
theorem State.fetch_eq (s : State) : s.fetch =
    if s.readByte s.pc = 0xCB#8 then ⟨s.readByte (s.fetchBase + 1), s.fetchBase + 1, true⟩
    else ⟨s.readByte s.pc, s.pc, false⟩ := by
  unfold State.fetch State.fetchOpcode
  rw [State.memRead_default]
  dsimp only
  split <;> rfl

/-- Over plain RAM the fetch changes nothing. -/
theorem State.fetchOpcode_default (s : State) : s.fetchOpcode = (s.fetch, s) := by
  refine Prod.ext rfl ?_
  unfold State.fetchOpcode
  rw [State.memRead_default]
  dsimp only
  split <;> rfl

/-- The two ways a step in mode Running goes (R410): the fetched opcode decodes and is executed, or it does not and only
the mode, with its report, changes. -/
theorem stepRunning_cases (s : State) :
    (∃ i, decode s.fetch.opcode s.fetch.isPrefixed = some i ∧ stepRunning s = executeDecoded i s) ∨
    (decode s.fetch.opcode s.fetch.isPrefixed = none ∧
      stepRunning s = .next (s.failDecode ⟨s.fetch.opcode, s.fetch.address, s.fetch.isPrefixed⟩,
        .decodeFailure ⟨s.fetch.opcode, s.fetch.address, s.fetch.isPrefixed⟩)) := by
  have e : decodeAdmitting Params.default.admitted = decode := rfl
  cases h : decode s.fetch.opcode s.fetch.isPrefixed with
  | some i => exact .inl ⟨i, rfl, by simp [stepRunning, State.fetchOpcode_default, e, h]⟩
  | none => exact .inr ⟨rfl, by simp [stepRunning, State.fetchOpcode_default, e, h]⟩

/-! The four ways a `step` goes, by mode (R410, R414). -/

theorem stepMode_running {s : State} (P : Params) (h : s.mode = .running) : stepMode s P = stepRunning s P := by
  simp [stepMode, h]
theorem stepMode_halted {s : State} (P : Params) (h : s.mode = .halted) : stepMode s P = .next (s, .halted) := by
  simp [stepMode, h]
theorem stepMode_stopped {s : State} (P : Params) (h : s.mode = .stopped) : stepMode s P = .next (s, .stopped) := by
  simp [stepMode, h]
theorem stepMode_failed {s : State} {r : Report} (P : Params) (h : s.mode = .failed r) :
    stepMode s P = .next (s, .decodeFailure r) := by simp [stepMode, h]

/-- Executing a decoded instruction whose meaning answers a next state (R410, R415). -/
theorem executeDecoded_next {i : Instr} {s t : State} (h : exec i s.toExecute = .next t) :
    executeDecoded i s = .next (finishEiDelay s.imePending i t, .ok) := by simp [executeDecoded, execOn_default, h]

/-- The end of a step leaves memory, mode and the HALT bug as the instruction left them. -/
@[simp] theorem finishEiDelay_mem (p : Bool) (i : Instr) (s : State) : (finishEiDelay p i s).mem = s.mem := by
  unfold finishEiDelay; split <;> rfl
@[simp] theorem finishEiDelay_mode (p : Bool) (i : Instr) (s : State) : (finishEiDelay p i s).mode = s.mode := by
  unfold finishEiDelay; split <;> rfl
@[simp] theorem finishEiDelay_haltBug (p : Bool) (i : Instr) (s : State) :
    (finishEiDelay p i s).haltBug = s.haltBug := by unfold finishEiDelay; split <;> rfl
@[simp] theorem finishEiDelay_device (p : Bool) (i : Instr) (s : State) : (finishEiDelay p i s).device = s.device := by
  unfold finishEiDelay; split <;> rfl
@[simp] theorem finishEiDelay_calls (p : Bool) (i : Instr) (s : State) : (finishEiDelay p i s).calls = s.calls := by
  unfold finishEiDelay; split <;> rfl

/-- With no EI pending the end of a step changes nothing. -/
@[simp] theorem finishEiDelay_false (i : Instr) (s : State) : finishEiDelay false i s = s := rfl

/-! ### Interrupt entry and wake -/

/-- Interrupt entry where it is taken (R1210): a push of PC, the control items, and the vector. -/
theorem State.interrupt_taken {s : State} (k : Fin 5) (h : s.takesInterrupt = true) :
    s.interrupt k = ({ s.push16 s.pc with
      pc := interruptVector k, ime := false, imePending := false, haltBug := false, mode := .running }, .taken) := by
  simp only [State.interrupt, h, if_true]

/-- Interrupt entry where it is not taken changes nothing. -/
theorem State.interrupt_notTaken {s : State} (k : Fin 5) (h : s.takesInterrupt = false) :
    s.interrupt k = (s, .notTaken) := by simp [State.interrupt, h]

/-- Where interrupt entry is taken (R1210). -/
theorem State.takesInterrupt_iff (s : State) :
    s.takesInterrupt = true ↔ s.ime = true ∧ (s.mode = .running ∨ s.mode = .halted) := by
  simp [State.takesInterrupt]

/-- A direct execute whose instruction's meaning answers a next state (R401, R402). -/
theorem executeCall_next {i : Instr} {s t : State} (h : exec i { s with irqPending := false } = .next t) :
    executeCall i s = .next
      ({ t with pc := s.pc, irqPending := s.irqPending, mode := modeAfterExecute s.mode t.mode }, .nextPc t.pc) := by
  simp [executeCall, execOn_default, h]

end Sys2Proof.Machine
end

