-- ==== Sys2Proof/Laws/PerInstr.lean ====
section
/-! SUPPORT. The statements made per instruction, over the instruction as syntax, and their lemma for each row. -/

namespace Sys2Proof.Laws

/-- Encoding: the decoder, which reads the opcode by its fields (R323, R324), answers the row for the opcode byte that
opcode_table.json gives it, in its table; a plain row's opcode is not the prefix byte; and the row's length is that of
its opcode bytes and operands. -/
def Encoding.Statement (i : Instr) : Prop :=
  decode i.row.opcode i.row.prefixed = some i ∧ (i.row.prefixed = false → i.row.opcode ≠ 0xCB#8) ∧
    i.opcodeLength + i.operandLength = i.length

theorem Encoding.nop : Encoding.Statement .nop := ⟨rfl, by decide, rfl⟩
theorem Encoding.ld_BC_d16 : Encoding.Statement .ld_BC_d16 := ⟨rfl, by decide, rfl⟩
theorem Encoding.ld_atBC_A : Encoding.Statement .ld_atBC_A := ⟨rfl, by decide, rfl⟩
theorem Encoding.inc_BC : Encoding.Statement .inc_BC := ⟨rfl, by decide, rfl⟩
theorem Encoding.inc_B : Encoding.Statement .inc_B := ⟨rfl, by decide, rfl⟩
theorem Encoding.dec_B : Encoding.Statement .dec_B := ⟨rfl, by decide, rfl⟩
theorem Encoding.ld_B_d8 : Encoding.Statement .ld_B_d8 := ⟨rfl, by decide, rfl⟩
theorem Encoding.rlca : Encoding.Statement .rlca := ⟨rfl, by decide, rfl⟩
theorem Encoding.ld_atA16_SP : Encoding.Statement .ld_atA16_SP := ⟨rfl, by decide, rfl⟩
theorem Encoding.add_HL_BC : Encoding.Statement .add_HL_BC := ⟨rfl, by decide, rfl⟩
theorem Encoding.ld_A_atBC : Encoding.Statement .ld_A_atBC := ⟨rfl, by decide, rfl⟩
theorem Encoding.dec_BC : Encoding.Statement .dec_BC := ⟨rfl, by decide, rfl⟩
theorem Encoding.inc_C : Encoding.Statement .inc_C := ⟨rfl, by decide, rfl⟩
theorem Encoding.dec_C : Encoding.Statement .dec_C := ⟨rfl, by decide, rfl⟩
theorem Encoding.ld_C_d8 : Encoding.Statement .ld_C_d8 := ⟨rfl, by decide, rfl⟩
theorem Encoding.rrca : Encoding.Statement .rrca := ⟨rfl, by decide, rfl⟩
theorem Encoding.stop : Encoding.Statement .stop := ⟨rfl, by decide, rfl⟩
theorem Encoding.ld_DE_d16 : Encoding.Statement .ld_DE_d16 := ⟨rfl, by decide, rfl⟩
theorem Encoding.ld_atDE_A : Encoding.Statement .ld_atDE_A := ⟨rfl, by decide, rfl⟩
theorem Encoding.inc_DE : Encoding.Statement .inc_DE := ⟨rfl, by decide, rfl⟩
theorem Encoding.inc_D : Encoding.Statement .inc_D := ⟨rfl, by decide, rfl⟩
theorem Encoding.dec_D : Encoding.Statement .dec_D := ⟨rfl, by decide, rfl⟩
theorem Encoding.ld_D_d8 : Encoding.Statement .ld_D_d8 := ⟨rfl, by decide, rfl⟩
theorem Encoding.rla : Encoding.Statement .rla := ⟨rfl, by decide, rfl⟩
theorem Encoding.jr_e8 : Encoding.Statement .jr_e8 := ⟨rfl, by decide, rfl⟩
theorem Encoding.add_HL_DE : Encoding.Statement .add_HL_DE := ⟨rfl, by decide, rfl⟩
theorem Encoding.ld_A_atDE : Encoding.Statement .ld_A_atDE := ⟨rfl, by decide, rfl⟩
theorem Encoding.dec_DE : Encoding.Statement .dec_DE := ⟨rfl, by decide, rfl⟩
theorem Encoding.inc_E : Encoding.Statement .inc_E := ⟨rfl, by decide, rfl⟩
theorem Encoding.dec_E : Encoding.Statement .dec_E := ⟨rfl, by decide, rfl⟩
theorem Encoding.ld_E_d8 : Encoding.Statement .ld_E_d8 := ⟨rfl, by decide, rfl⟩
theorem Encoding.rra : Encoding.Statement .rra := ⟨rfl, by decide, rfl⟩
theorem Encoding.jr_NZ_e8 : Encoding.Statement .jr_NZ_e8 := ⟨rfl, by decide, rfl⟩
theorem Encoding.ld_HL_d16 : Encoding.Statement .ld_HL_d16 := ⟨rfl, by decide, rfl⟩
theorem Encoding.ld_atHLinc_A : Encoding.Statement .ld_atHLinc_A := ⟨rfl, by decide, rfl⟩
theorem Encoding.inc_HL : Encoding.Statement .inc_HL := ⟨rfl, by decide, rfl⟩
theorem Encoding.inc_H : Encoding.Statement .inc_H := ⟨rfl, by decide, rfl⟩
theorem Encoding.dec_H : Encoding.Statement .dec_H := ⟨rfl, by decide, rfl⟩
theorem Encoding.ld_H_d8 : Encoding.Statement .ld_H_d8 := ⟨rfl, by decide, rfl⟩
theorem Encoding.daa : Encoding.Statement .daa := ⟨rfl, by decide, rfl⟩
theorem Encoding.jr_Z_e8 : Encoding.Statement .jr_Z_e8 := ⟨rfl, by decide, rfl⟩
theorem Encoding.add_HL_HL : Encoding.Statement .add_HL_HL := ⟨rfl, by decide, rfl⟩
theorem Encoding.ld_A_atHLinc : Encoding.Statement .ld_A_atHLinc := ⟨rfl, by decide, rfl⟩
theorem Encoding.dec_HL : Encoding.Statement .dec_HL := ⟨rfl, by decide, rfl⟩
theorem Encoding.inc_L : Encoding.Statement .inc_L := ⟨rfl, by decide, rfl⟩
theorem Encoding.dec_L : Encoding.Statement .dec_L := ⟨rfl, by decide, rfl⟩
theorem Encoding.ld_L_d8 : Encoding.Statement .ld_L_d8 := ⟨rfl, by decide, rfl⟩
theorem Encoding.cpl : Encoding.Statement .cpl := ⟨rfl, by decide, rfl⟩
theorem Encoding.jr_NC_e8 : Encoding.Statement .jr_NC_e8 := ⟨rfl, by decide, rfl⟩
theorem Encoding.ld_SP_d16 : Encoding.Statement .ld_SP_d16 := ⟨rfl, by decide, rfl⟩
theorem Encoding.ld_atHLdec_A : Encoding.Statement .ld_atHLdec_A := ⟨rfl, by decide, rfl⟩
theorem Encoding.inc_SP : Encoding.Statement .inc_SP := ⟨rfl, by decide, rfl⟩
theorem Encoding.inc_atHL : Encoding.Statement .inc_atHL := ⟨rfl, by decide, rfl⟩
theorem Encoding.dec_atHL : Encoding.Statement .dec_atHL := ⟨rfl, by decide, rfl⟩
theorem Encoding.ld_atHL_d8 : Encoding.Statement .ld_atHL_d8 := ⟨rfl, by decide, rfl⟩
theorem Encoding.scf : Encoding.Statement .scf := ⟨rfl, by decide, rfl⟩
theorem Encoding.jr_C_e8 : Encoding.Statement .jr_C_e8 := ⟨rfl, by decide, rfl⟩
theorem Encoding.add_HL_SP : Encoding.Statement .add_HL_SP := ⟨rfl, by decide, rfl⟩
theorem Encoding.ld_A_atHLdec : Encoding.Statement .ld_A_atHLdec := ⟨rfl, by decide, rfl⟩
theorem Encoding.dec_SP : Encoding.Statement .dec_SP := ⟨rfl, by decide, rfl⟩
theorem Encoding.inc_A : Encoding.Statement .inc_A := ⟨rfl, by decide, rfl⟩
theorem Encoding.dec_A : Encoding.Statement .dec_A := ⟨rfl, by decide, rfl⟩
theorem Encoding.ld_A_d8 : Encoding.Statement .ld_A_d8 := ⟨rfl, by decide, rfl⟩
theorem Encoding.ccf : Encoding.Statement .ccf := ⟨rfl, by decide, rfl⟩
theorem Encoding.ld_B_B : Encoding.Statement .ld_B_B := ⟨rfl, by decide, rfl⟩
theorem Encoding.ld_B_C : Encoding.Statement .ld_B_C := ⟨rfl, by decide, rfl⟩
theorem Encoding.ld_B_D : Encoding.Statement .ld_B_D := ⟨rfl, by decide, rfl⟩
theorem Encoding.ld_B_E : Encoding.Statement .ld_B_E := ⟨rfl, by decide, rfl⟩
theorem Encoding.ld_B_H : Encoding.Statement .ld_B_H := ⟨rfl, by decide, rfl⟩
theorem Encoding.ld_B_L : Encoding.Statement .ld_B_L := ⟨rfl, by decide, rfl⟩
theorem Encoding.ld_B_atHL : Encoding.Statement .ld_B_atHL := ⟨rfl, by decide, rfl⟩
theorem Encoding.ld_B_A : Encoding.Statement .ld_B_A := ⟨rfl, by decide, rfl⟩
theorem Encoding.ld_C_B : Encoding.Statement .ld_C_B := ⟨rfl, by decide, rfl⟩
theorem Encoding.ld_C_C : Encoding.Statement .ld_C_C := ⟨rfl, by decide, rfl⟩
theorem Encoding.ld_C_D : Encoding.Statement .ld_C_D := ⟨rfl, by decide, rfl⟩
theorem Encoding.ld_C_E : Encoding.Statement .ld_C_E := ⟨rfl, by decide, rfl⟩
theorem Encoding.ld_C_H : Encoding.Statement .ld_C_H := ⟨rfl, by decide, rfl⟩
theorem Encoding.ld_C_L : Encoding.Statement .ld_C_L := ⟨rfl, by decide, rfl⟩
theorem Encoding.ld_C_atHL : Encoding.Statement .ld_C_atHL := ⟨rfl, by decide, rfl⟩
theorem Encoding.ld_C_A : Encoding.Statement .ld_C_A := ⟨rfl, by decide, rfl⟩
theorem Encoding.ld_D_B : Encoding.Statement .ld_D_B := ⟨rfl, by decide, rfl⟩
theorem Encoding.ld_D_C : Encoding.Statement .ld_D_C := ⟨rfl, by decide, rfl⟩
theorem Encoding.ld_D_D : Encoding.Statement .ld_D_D := ⟨rfl, by decide, rfl⟩
theorem Encoding.ld_D_E : Encoding.Statement .ld_D_E := ⟨rfl, by decide, rfl⟩
theorem Encoding.ld_D_H : Encoding.Statement .ld_D_H := ⟨rfl, by decide, rfl⟩
theorem Encoding.ld_D_L : Encoding.Statement .ld_D_L := ⟨rfl, by decide, rfl⟩
theorem Encoding.ld_D_atHL : Encoding.Statement .ld_D_atHL := ⟨rfl, by decide, rfl⟩
theorem Encoding.ld_D_A : Encoding.Statement .ld_D_A := ⟨rfl, by decide, rfl⟩
theorem Encoding.ld_E_B : Encoding.Statement .ld_E_B := ⟨rfl, by decide, rfl⟩
theorem Encoding.ld_E_C : Encoding.Statement .ld_E_C := ⟨rfl, by decide, rfl⟩
theorem Encoding.ld_E_D : Encoding.Statement .ld_E_D := ⟨rfl, by decide, rfl⟩
theorem Encoding.ld_E_E : Encoding.Statement .ld_E_E := ⟨rfl, by decide, rfl⟩
theorem Encoding.ld_E_H : Encoding.Statement .ld_E_H := ⟨rfl, by decide, rfl⟩
theorem Encoding.ld_E_L : Encoding.Statement .ld_E_L := ⟨rfl, by decide, rfl⟩
theorem Encoding.ld_E_atHL : Encoding.Statement .ld_E_atHL := ⟨rfl, by decide, rfl⟩
theorem Encoding.ld_E_A : Encoding.Statement .ld_E_A := ⟨rfl, by decide, rfl⟩
theorem Encoding.ld_H_B : Encoding.Statement .ld_H_B := ⟨rfl, by decide, rfl⟩
theorem Encoding.ld_H_C : Encoding.Statement .ld_H_C := ⟨rfl, by decide, rfl⟩
theorem Encoding.ld_H_D : Encoding.Statement .ld_H_D := ⟨rfl, by decide, rfl⟩
theorem Encoding.ld_H_E : Encoding.Statement .ld_H_E := ⟨rfl, by decide, rfl⟩
theorem Encoding.ld_H_H : Encoding.Statement .ld_H_H := ⟨rfl, by decide, rfl⟩
theorem Encoding.ld_H_L : Encoding.Statement .ld_H_L := ⟨rfl, by decide, rfl⟩
theorem Encoding.ld_H_atHL : Encoding.Statement .ld_H_atHL := ⟨rfl, by decide, rfl⟩
theorem Encoding.ld_H_A : Encoding.Statement .ld_H_A := ⟨rfl, by decide, rfl⟩
theorem Encoding.ld_L_B : Encoding.Statement .ld_L_B := ⟨rfl, by decide, rfl⟩
theorem Encoding.ld_L_C : Encoding.Statement .ld_L_C := ⟨rfl, by decide, rfl⟩
theorem Encoding.ld_L_D : Encoding.Statement .ld_L_D := ⟨rfl, by decide, rfl⟩
theorem Encoding.ld_L_E : Encoding.Statement .ld_L_E := ⟨rfl, by decide, rfl⟩
theorem Encoding.ld_L_H : Encoding.Statement .ld_L_H := ⟨rfl, by decide, rfl⟩
theorem Encoding.ld_L_L : Encoding.Statement .ld_L_L := ⟨rfl, by decide, rfl⟩
theorem Encoding.ld_L_atHL : Encoding.Statement .ld_L_atHL := ⟨rfl, by decide, rfl⟩
theorem Encoding.ld_L_A : Encoding.Statement .ld_L_A := ⟨rfl, by decide, rfl⟩
theorem Encoding.ld_atHL_B : Encoding.Statement .ld_atHL_B := ⟨rfl, by decide, rfl⟩
theorem Encoding.ld_atHL_C : Encoding.Statement .ld_atHL_C := ⟨rfl, by decide, rfl⟩
theorem Encoding.ld_atHL_D : Encoding.Statement .ld_atHL_D := ⟨rfl, by decide, rfl⟩
theorem Encoding.ld_atHL_E : Encoding.Statement .ld_atHL_E := ⟨rfl, by decide, rfl⟩
theorem Encoding.ld_atHL_H : Encoding.Statement .ld_atHL_H := ⟨rfl, by decide, rfl⟩
theorem Encoding.ld_atHL_L : Encoding.Statement .ld_atHL_L := ⟨rfl, by decide, rfl⟩
theorem Encoding.halt : Encoding.Statement .halt := ⟨rfl, by decide, rfl⟩
theorem Encoding.ld_atHL_A : Encoding.Statement .ld_atHL_A := ⟨rfl, by decide, rfl⟩
theorem Encoding.ld_A_B : Encoding.Statement .ld_A_B := ⟨rfl, by decide, rfl⟩
theorem Encoding.ld_A_C : Encoding.Statement .ld_A_C := ⟨rfl, by decide, rfl⟩
theorem Encoding.ld_A_D : Encoding.Statement .ld_A_D := ⟨rfl, by decide, rfl⟩
theorem Encoding.ld_A_E : Encoding.Statement .ld_A_E := ⟨rfl, by decide, rfl⟩
theorem Encoding.ld_A_H : Encoding.Statement .ld_A_H := ⟨rfl, by decide, rfl⟩
theorem Encoding.ld_A_L : Encoding.Statement .ld_A_L := ⟨rfl, by decide, rfl⟩
theorem Encoding.ld_A_atHL : Encoding.Statement .ld_A_atHL := ⟨rfl, by decide, rfl⟩
theorem Encoding.ld_A_A : Encoding.Statement .ld_A_A := ⟨rfl, by decide, rfl⟩
theorem Encoding.add_A_B : Encoding.Statement .add_A_B := ⟨rfl, by decide, rfl⟩
theorem Encoding.add_A_C : Encoding.Statement .add_A_C := ⟨rfl, by decide, rfl⟩
theorem Encoding.add_A_D : Encoding.Statement .add_A_D := ⟨rfl, by decide, rfl⟩
theorem Encoding.add_A_E : Encoding.Statement .add_A_E := ⟨rfl, by decide, rfl⟩
theorem Encoding.add_A_H : Encoding.Statement .add_A_H := ⟨rfl, by decide, rfl⟩
theorem Encoding.add_A_L : Encoding.Statement .add_A_L := ⟨rfl, by decide, rfl⟩
theorem Encoding.add_A_atHL : Encoding.Statement .add_A_atHL := ⟨rfl, by decide, rfl⟩
theorem Encoding.add_A_A : Encoding.Statement .add_A_A := ⟨rfl, by decide, rfl⟩
theorem Encoding.adc_A_B : Encoding.Statement .adc_A_B := ⟨rfl, by decide, rfl⟩
theorem Encoding.adc_A_C : Encoding.Statement .adc_A_C := ⟨rfl, by decide, rfl⟩
theorem Encoding.adc_A_D : Encoding.Statement .adc_A_D := ⟨rfl, by decide, rfl⟩
theorem Encoding.adc_A_E : Encoding.Statement .adc_A_E := ⟨rfl, by decide, rfl⟩
theorem Encoding.adc_A_H : Encoding.Statement .adc_A_H := ⟨rfl, by decide, rfl⟩
theorem Encoding.adc_A_L : Encoding.Statement .adc_A_L := ⟨rfl, by decide, rfl⟩
theorem Encoding.adc_A_atHL : Encoding.Statement .adc_A_atHL := ⟨rfl, by decide, rfl⟩
theorem Encoding.adc_A_A : Encoding.Statement .adc_A_A := ⟨rfl, by decide, rfl⟩
theorem Encoding.sub_A_B : Encoding.Statement .sub_A_B := ⟨rfl, by decide, rfl⟩
theorem Encoding.sub_A_C : Encoding.Statement .sub_A_C := ⟨rfl, by decide, rfl⟩
theorem Encoding.sub_A_D : Encoding.Statement .sub_A_D := ⟨rfl, by decide, rfl⟩
theorem Encoding.sub_A_E : Encoding.Statement .sub_A_E := ⟨rfl, by decide, rfl⟩
theorem Encoding.sub_A_H : Encoding.Statement .sub_A_H := ⟨rfl, by decide, rfl⟩
theorem Encoding.sub_A_L : Encoding.Statement .sub_A_L := ⟨rfl, by decide, rfl⟩
theorem Encoding.sub_A_atHL : Encoding.Statement .sub_A_atHL := ⟨rfl, by decide, rfl⟩
theorem Encoding.sub_A_A : Encoding.Statement .sub_A_A := ⟨rfl, by decide, rfl⟩
theorem Encoding.sbc_A_B : Encoding.Statement .sbc_A_B := ⟨rfl, by decide, rfl⟩
theorem Encoding.sbc_A_C : Encoding.Statement .sbc_A_C := ⟨rfl, by decide, rfl⟩
theorem Encoding.sbc_A_D : Encoding.Statement .sbc_A_D := ⟨rfl, by decide, rfl⟩
theorem Encoding.sbc_A_E : Encoding.Statement .sbc_A_E := ⟨rfl, by decide, rfl⟩
theorem Encoding.sbc_A_H : Encoding.Statement .sbc_A_H := ⟨rfl, by decide, rfl⟩
theorem Encoding.sbc_A_L : Encoding.Statement .sbc_A_L := ⟨rfl, by decide, rfl⟩
theorem Encoding.sbc_A_atHL : Encoding.Statement .sbc_A_atHL := ⟨rfl, by decide, rfl⟩
theorem Encoding.sbc_A_A : Encoding.Statement .sbc_A_A := ⟨rfl, by decide, rfl⟩
theorem Encoding.and_A_B : Encoding.Statement .and_A_B := ⟨rfl, by decide, rfl⟩
theorem Encoding.and_A_C : Encoding.Statement .and_A_C := ⟨rfl, by decide, rfl⟩
theorem Encoding.and_A_D : Encoding.Statement .and_A_D := ⟨rfl, by decide, rfl⟩
theorem Encoding.and_A_E : Encoding.Statement .and_A_E := ⟨rfl, by decide, rfl⟩
theorem Encoding.and_A_H : Encoding.Statement .and_A_H := ⟨rfl, by decide, rfl⟩
theorem Encoding.and_A_L : Encoding.Statement .and_A_L := ⟨rfl, by decide, rfl⟩
theorem Encoding.and_A_atHL : Encoding.Statement .and_A_atHL := ⟨rfl, by decide, rfl⟩
theorem Encoding.and_A_A : Encoding.Statement .and_A_A := ⟨rfl, by decide, rfl⟩
theorem Encoding.xor_A_B : Encoding.Statement .xor_A_B := ⟨rfl, by decide, rfl⟩
theorem Encoding.xor_A_C : Encoding.Statement .xor_A_C := ⟨rfl, by decide, rfl⟩
theorem Encoding.xor_A_D : Encoding.Statement .xor_A_D := ⟨rfl, by decide, rfl⟩
theorem Encoding.xor_A_E : Encoding.Statement .xor_A_E := ⟨rfl, by decide, rfl⟩
theorem Encoding.xor_A_H : Encoding.Statement .xor_A_H := ⟨rfl, by decide, rfl⟩
theorem Encoding.xor_A_L : Encoding.Statement .xor_A_L := ⟨rfl, by decide, rfl⟩
theorem Encoding.xor_A_atHL : Encoding.Statement .xor_A_atHL := ⟨rfl, by decide, rfl⟩
theorem Encoding.xor_A_A : Encoding.Statement .xor_A_A := ⟨rfl, by decide, rfl⟩
theorem Encoding.or_A_B : Encoding.Statement .or_A_B := ⟨rfl, by decide, rfl⟩
theorem Encoding.or_A_C : Encoding.Statement .or_A_C := ⟨rfl, by decide, rfl⟩
theorem Encoding.or_A_D : Encoding.Statement .or_A_D := ⟨rfl, by decide, rfl⟩
theorem Encoding.or_A_E : Encoding.Statement .or_A_E := ⟨rfl, by decide, rfl⟩
theorem Encoding.or_A_H : Encoding.Statement .or_A_H := ⟨rfl, by decide, rfl⟩
theorem Encoding.or_A_L : Encoding.Statement .or_A_L := ⟨rfl, by decide, rfl⟩
theorem Encoding.or_A_atHL : Encoding.Statement .or_A_atHL := ⟨rfl, by decide, rfl⟩
theorem Encoding.or_A_A : Encoding.Statement .or_A_A := ⟨rfl, by decide, rfl⟩
theorem Encoding.cp_A_B : Encoding.Statement .cp_A_B := ⟨rfl, by decide, rfl⟩
theorem Encoding.cp_A_C : Encoding.Statement .cp_A_C := ⟨rfl, by decide, rfl⟩
theorem Encoding.cp_A_D : Encoding.Statement .cp_A_D := ⟨rfl, by decide, rfl⟩
theorem Encoding.cp_A_E : Encoding.Statement .cp_A_E := ⟨rfl, by decide, rfl⟩
theorem Encoding.cp_A_H : Encoding.Statement .cp_A_H := ⟨rfl, by decide, rfl⟩
theorem Encoding.cp_A_L : Encoding.Statement .cp_A_L := ⟨rfl, by decide, rfl⟩
theorem Encoding.cp_A_atHL : Encoding.Statement .cp_A_atHL := ⟨rfl, by decide, rfl⟩
theorem Encoding.cp_A_A : Encoding.Statement .cp_A_A := ⟨rfl, by decide, rfl⟩
theorem Encoding.ret_NZ : Encoding.Statement .ret_NZ := ⟨rfl, by decide, rfl⟩
theorem Encoding.pop_BC : Encoding.Statement .pop_BC := ⟨rfl, by decide, rfl⟩
theorem Encoding.jp_NZ_a16 : Encoding.Statement .jp_NZ_a16 := ⟨rfl, by decide, rfl⟩
theorem Encoding.jp_a16 : Encoding.Statement .jp_a16 := ⟨rfl, by decide, rfl⟩
theorem Encoding.call_NZ_a16 : Encoding.Statement .call_NZ_a16 := ⟨rfl, by decide, rfl⟩
theorem Encoding.push_BC : Encoding.Statement .push_BC := ⟨rfl, by decide, rfl⟩
theorem Encoding.add_A_d8 : Encoding.Statement .add_A_d8 := ⟨rfl, by decide, rfl⟩
theorem Encoding.rst_00 : Encoding.Statement .rst_00 := ⟨rfl, by decide, rfl⟩
theorem Encoding.ret_Z : Encoding.Statement .ret_Z := ⟨rfl, by decide, rfl⟩
theorem Encoding.ret : Encoding.Statement .ret := ⟨rfl, by decide, rfl⟩
theorem Encoding.jp_Z_a16 : Encoding.Statement .jp_Z_a16 := ⟨rfl, by decide, rfl⟩
theorem Encoding.call_Z_a16 : Encoding.Statement .call_Z_a16 := ⟨rfl, by decide, rfl⟩
theorem Encoding.call_a16 : Encoding.Statement .call_a16 := ⟨rfl, by decide, rfl⟩
theorem Encoding.adc_A_d8 : Encoding.Statement .adc_A_d8 := ⟨rfl, by decide, rfl⟩
theorem Encoding.rst_08 : Encoding.Statement .rst_08 := ⟨rfl, by decide, rfl⟩
theorem Encoding.ret_NC : Encoding.Statement .ret_NC := ⟨rfl, by decide, rfl⟩
theorem Encoding.pop_DE : Encoding.Statement .pop_DE := ⟨rfl, by decide, rfl⟩
theorem Encoding.jp_NC_a16 : Encoding.Statement .jp_NC_a16 := ⟨rfl, by decide, rfl⟩
theorem Encoding.call_NC_a16 : Encoding.Statement .call_NC_a16 := ⟨rfl, by decide, rfl⟩
theorem Encoding.push_DE : Encoding.Statement .push_DE := ⟨rfl, by decide, rfl⟩
theorem Encoding.sub_A_d8 : Encoding.Statement .sub_A_d8 := ⟨rfl, by decide, rfl⟩
theorem Encoding.rst_10 : Encoding.Statement .rst_10 := ⟨rfl, by decide, rfl⟩
theorem Encoding.ret_C : Encoding.Statement .ret_C := ⟨rfl, by decide, rfl⟩
theorem Encoding.reti : Encoding.Statement .reti := ⟨rfl, by decide, rfl⟩
theorem Encoding.jp_C_a16 : Encoding.Statement .jp_C_a16 := ⟨rfl, by decide, rfl⟩
theorem Encoding.call_C_a16 : Encoding.Statement .call_C_a16 := ⟨rfl, by decide, rfl⟩
theorem Encoding.sbc_A_d8 : Encoding.Statement .sbc_A_d8 := ⟨rfl, by decide, rfl⟩
theorem Encoding.rst_18 : Encoding.Statement .rst_18 := ⟨rfl, by decide, rfl⟩
theorem Encoding.ldh_atA8_A : Encoding.Statement .ldh_atA8_A := ⟨rfl, by decide, rfl⟩
theorem Encoding.pop_HL : Encoding.Statement .pop_HL := ⟨rfl, by decide, rfl⟩
theorem Encoding.ldh_atC_A : Encoding.Statement .ldh_atC_A := ⟨rfl, by decide, rfl⟩
theorem Encoding.push_HL : Encoding.Statement .push_HL := ⟨rfl, by decide, rfl⟩
theorem Encoding.and_A_d8 : Encoding.Statement .and_A_d8 := ⟨rfl, by decide, rfl⟩
theorem Encoding.rst_20 : Encoding.Statement .rst_20 := ⟨rfl, by decide, rfl⟩
theorem Encoding.add_SP_e8 : Encoding.Statement .add_SP_e8 := ⟨rfl, by decide, rfl⟩
theorem Encoding.jp_HL : Encoding.Statement .jp_HL := ⟨rfl, by decide, rfl⟩
theorem Encoding.ld_atA16_A : Encoding.Statement .ld_atA16_A := ⟨rfl, by decide, rfl⟩
theorem Encoding.xor_A_d8 : Encoding.Statement .xor_A_d8 := ⟨rfl, by decide, rfl⟩
theorem Encoding.rst_28 : Encoding.Statement .rst_28 := ⟨rfl, by decide, rfl⟩
theorem Encoding.ldh_A_atA8 : Encoding.Statement .ldh_A_atA8 := ⟨rfl, by decide, rfl⟩
theorem Encoding.pop_AF : Encoding.Statement .pop_AF := ⟨rfl, by decide, rfl⟩
theorem Encoding.ldh_A_atC : Encoding.Statement .ldh_A_atC := ⟨rfl, by decide, rfl⟩
theorem Encoding.di : Encoding.Statement .di := ⟨rfl, by decide, rfl⟩
theorem Encoding.push_AF : Encoding.Statement .push_AF := ⟨rfl, by decide, rfl⟩
theorem Encoding.or_A_d8 : Encoding.Statement .or_A_d8 := ⟨rfl, by decide, rfl⟩
theorem Encoding.rst_30 : Encoding.Statement .rst_30 := ⟨rfl, by decide, rfl⟩
theorem Encoding.ld_HL_SPe8 : Encoding.Statement .ld_HL_SPe8 := ⟨rfl, by decide, rfl⟩
theorem Encoding.ld_SP_HL : Encoding.Statement .ld_SP_HL := ⟨rfl, by decide, rfl⟩
theorem Encoding.ld_A_atA16 : Encoding.Statement .ld_A_atA16 := ⟨rfl, by decide, rfl⟩
theorem Encoding.ei : Encoding.Statement .ei := ⟨rfl, by decide, rfl⟩
theorem Encoding.cp_A_d8 : Encoding.Statement .cp_A_d8 := ⟨rfl, by decide, rfl⟩
theorem Encoding.rst_38 : Encoding.Statement .rst_38 := ⟨rfl, by decide, rfl⟩
theorem Encoding.rlc_B : Encoding.Statement .rlc_B := ⟨rfl, by decide, rfl⟩
theorem Encoding.rlc_C : Encoding.Statement .rlc_C := ⟨rfl, by decide, rfl⟩
theorem Encoding.rlc_D : Encoding.Statement .rlc_D := ⟨rfl, by decide, rfl⟩
theorem Encoding.rlc_E : Encoding.Statement .rlc_E := ⟨rfl, by decide, rfl⟩
theorem Encoding.rlc_H : Encoding.Statement .rlc_H := ⟨rfl, by decide, rfl⟩
theorem Encoding.rlc_L : Encoding.Statement .rlc_L := ⟨rfl, by decide, rfl⟩
theorem Encoding.rlc_atHL : Encoding.Statement .rlc_atHL := ⟨rfl, by decide, rfl⟩
theorem Encoding.rlc_A : Encoding.Statement .rlc_A := ⟨rfl, by decide, rfl⟩
theorem Encoding.rrc_B : Encoding.Statement .rrc_B := ⟨rfl, by decide, rfl⟩
theorem Encoding.rrc_C : Encoding.Statement .rrc_C := ⟨rfl, by decide, rfl⟩
theorem Encoding.rrc_D : Encoding.Statement .rrc_D := ⟨rfl, by decide, rfl⟩
theorem Encoding.rrc_E : Encoding.Statement .rrc_E := ⟨rfl, by decide, rfl⟩
theorem Encoding.rrc_H : Encoding.Statement .rrc_H := ⟨rfl, by decide, rfl⟩
theorem Encoding.rrc_L : Encoding.Statement .rrc_L := ⟨rfl, by decide, rfl⟩
theorem Encoding.rrc_atHL : Encoding.Statement .rrc_atHL := ⟨rfl, by decide, rfl⟩
theorem Encoding.rrc_A : Encoding.Statement .rrc_A := ⟨rfl, by decide, rfl⟩
theorem Encoding.rl_B : Encoding.Statement .rl_B := ⟨rfl, by decide, rfl⟩
theorem Encoding.rl_C : Encoding.Statement .rl_C := ⟨rfl, by decide, rfl⟩
theorem Encoding.rl_D : Encoding.Statement .rl_D := ⟨rfl, by decide, rfl⟩
theorem Encoding.rl_E : Encoding.Statement .rl_E := ⟨rfl, by decide, rfl⟩
theorem Encoding.rl_H : Encoding.Statement .rl_H := ⟨rfl, by decide, rfl⟩
theorem Encoding.rl_L : Encoding.Statement .rl_L := ⟨rfl, by decide, rfl⟩
theorem Encoding.rl_atHL : Encoding.Statement .rl_atHL := ⟨rfl, by decide, rfl⟩
theorem Encoding.rl_A : Encoding.Statement .rl_A := ⟨rfl, by decide, rfl⟩
theorem Encoding.rr_B : Encoding.Statement .rr_B := ⟨rfl, by decide, rfl⟩
theorem Encoding.rr_C : Encoding.Statement .rr_C := ⟨rfl, by decide, rfl⟩
theorem Encoding.rr_D : Encoding.Statement .rr_D := ⟨rfl, by decide, rfl⟩
theorem Encoding.rr_E : Encoding.Statement .rr_E := ⟨rfl, by decide, rfl⟩
theorem Encoding.rr_H : Encoding.Statement .rr_H := ⟨rfl, by decide, rfl⟩
theorem Encoding.rr_L : Encoding.Statement .rr_L := ⟨rfl, by decide, rfl⟩
theorem Encoding.rr_atHL : Encoding.Statement .rr_atHL := ⟨rfl, by decide, rfl⟩
theorem Encoding.rr_A : Encoding.Statement .rr_A := ⟨rfl, by decide, rfl⟩
theorem Encoding.sla_B : Encoding.Statement .sla_B := ⟨rfl, by decide, rfl⟩
theorem Encoding.sla_C : Encoding.Statement .sla_C := ⟨rfl, by decide, rfl⟩
theorem Encoding.sla_D : Encoding.Statement .sla_D := ⟨rfl, by decide, rfl⟩
theorem Encoding.sla_E : Encoding.Statement .sla_E := ⟨rfl, by decide, rfl⟩
theorem Encoding.sla_H : Encoding.Statement .sla_H := ⟨rfl, by decide, rfl⟩
theorem Encoding.sla_L : Encoding.Statement .sla_L := ⟨rfl, by decide, rfl⟩
theorem Encoding.sla_atHL : Encoding.Statement .sla_atHL := ⟨rfl, by decide, rfl⟩
theorem Encoding.sla_A : Encoding.Statement .sla_A := ⟨rfl, by decide, rfl⟩
theorem Encoding.sra_B : Encoding.Statement .sra_B := ⟨rfl, by decide, rfl⟩
theorem Encoding.sra_C : Encoding.Statement .sra_C := ⟨rfl, by decide, rfl⟩
theorem Encoding.sra_D : Encoding.Statement .sra_D := ⟨rfl, by decide, rfl⟩
theorem Encoding.sra_E : Encoding.Statement .sra_E := ⟨rfl, by decide, rfl⟩
theorem Encoding.sra_H : Encoding.Statement .sra_H := ⟨rfl, by decide, rfl⟩
theorem Encoding.sra_L : Encoding.Statement .sra_L := ⟨rfl, by decide, rfl⟩
theorem Encoding.sra_atHL : Encoding.Statement .sra_atHL := ⟨rfl, by decide, rfl⟩
theorem Encoding.sra_A : Encoding.Statement .sra_A := ⟨rfl, by decide, rfl⟩
theorem Encoding.swap_B : Encoding.Statement .swap_B := ⟨rfl, by decide, rfl⟩
theorem Encoding.swap_C : Encoding.Statement .swap_C := ⟨rfl, by decide, rfl⟩
theorem Encoding.swap_D : Encoding.Statement .swap_D := ⟨rfl, by decide, rfl⟩
theorem Encoding.swap_E : Encoding.Statement .swap_E := ⟨rfl, by decide, rfl⟩
theorem Encoding.swap_H : Encoding.Statement .swap_H := ⟨rfl, by decide, rfl⟩
theorem Encoding.swap_L : Encoding.Statement .swap_L := ⟨rfl, by decide, rfl⟩
theorem Encoding.swap_atHL : Encoding.Statement .swap_atHL := ⟨rfl, by decide, rfl⟩
theorem Encoding.swap_A : Encoding.Statement .swap_A := ⟨rfl, by decide, rfl⟩
theorem Encoding.srl_B : Encoding.Statement .srl_B := ⟨rfl, by decide, rfl⟩
theorem Encoding.srl_C : Encoding.Statement .srl_C := ⟨rfl, by decide, rfl⟩
theorem Encoding.srl_D : Encoding.Statement .srl_D := ⟨rfl, by decide, rfl⟩
theorem Encoding.srl_E : Encoding.Statement .srl_E := ⟨rfl, by decide, rfl⟩
theorem Encoding.srl_H : Encoding.Statement .srl_H := ⟨rfl, by decide, rfl⟩
theorem Encoding.srl_L : Encoding.Statement .srl_L := ⟨rfl, by decide, rfl⟩
theorem Encoding.srl_atHL : Encoding.Statement .srl_atHL := ⟨rfl, by decide, rfl⟩
theorem Encoding.srl_A : Encoding.Statement .srl_A := ⟨rfl, by decide, rfl⟩
theorem Encoding.bit_0_B : Encoding.Statement .bit_0_B := ⟨rfl, by decide, rfl⟩
theorem Encoding.bit_0_C : Encoding.Statement .bit_0_C := ⟨rfl, by decide, rfl⟩
theorem Encoding.bit_0_D : Encoding.Statement .bit_0_D := ⟨rfl, by decide, rfl⟩
theorem Encoding.bit_0_E : Encoding.Statement .bit_0_E := ⟨rfl, by decide, rfl⟩
theorem Encoding.bit_0_H : Encoding.Statement .bit_0_H := ⟨rfl, by decide, rfl⟩
theorem Encoding.bit_0_L : Encoding.Statement .bit_0_L := ⟨rfl, by decide, rfl⟩
theorem Encoding.bit_0_atHL : Encoding.Statement .bit_0_atHL := ⟨rfl, by decide, rfl⟩
theorem Encoding.bit_0_A : Encoding.Statement .bit_0_A := ⟨rfl, by decide, rfl⟩
theorem Encoding.bit_1_B : Encoding.Statement .bit_1_B := ⟨rfl, by decide, rfl⟩
theorem Encoding.bit_1_C : Encoding.Statement .bit_1_C := ⟨rfl, by decide, rfl⟩
theorem Encoding.bit_1_D : Encoding.Statement .bit_1_D := ⟨rfl, by decide, rfl⟩
theorem Encoding.bit_1_E : Encoding.Statement .bit_1_E := ⟨rfl, by decide, rfl⟩
theorem Encoding.bit_1_H : Encoding.Statement .bit_1_H := ⟨rfl, by decide, rfl⟩
theorem Encoding.bit_1_L : Encoding.Statement .bit_1_L := ⟨rfl, by decide, rfl⟩
theorem Encoding.bit_1_atHL : Encoding.Statement .bit_1_atHL := ⟨rfl, by decide, rfl⟩
theorem Encoding.bit_1_A : Encoding.Statement .bit_1_A := ⟨rfl, by decide, rfl⟩
theorem Encoding.bit_2_B : Encoding.Statement .bit_2_B := ⟨rfl, by decide, rfl⟩
theorem Encoding.bit_2_C : Encoding.Statement .bit_2_C := ⟨rfl, by decide, rfl⟩
theorem Encoding.bit_2_D : Encoding.Statement .bit_2_D := ⟨rfl, by decide, rfl⟩
theorem Encoding.bit_2_E : Encoding.Statement .bit_2_E := ⟨rfl, by decide, rfl⟩
theorem Encoding.bit_2_H : Encoding.Statement .bit_2_H := ⟨rfl, by decide, rfl⟩
theorem Encoding.bit_2_L : Encoding.Statement .bit_2_L := ⟨rfl, by decide, rfl⟩
theorem Encoding.bit_2_atHL : Encoding.Statement .bit_2_atHL := ⟨rfl, by decide, rfl⟩
theorem Encoding.bit_2_A : Encoding.Statement .bit_2_A := ⟨rfl, by decide, rfl⟩
theorem Encoding.bit_3_B : Encoding.Statement .bit_3_B := ⟨rfl, by decide, rfl⟩
theorem Encoding.bit_3_C : Encoding.Statement .bit_3_C := ⟨rfl, by decide, rfl⟩
theorem Encoding.bit_3_D : Encoding.Statement .bit_3_D := ⟨rfl, by decide, rfl⟩
theorem Encoding.bit_3_E : Encoding.Statement .bit_3_E := ⟨rfl, by decide, rfl⟩
theorem Encoding.bit_3_H : Encoding.Statement .bit_3_H := ⟨rfl, by decide, rfl⟩
theorem Encoding.bit_3_L : Encoding.Statement .bit_3_L := ⟨rfl, by decide, rfl⟩
theorem Encoding.bit_3_atHL : Encoding.Statement .bit_3_atHL := ⟨rfl, by decide, rfl⟩
theorem Encoding.bit_3_A : Encoding.Statement .bit_3_A := ⟨rfl, by decide, rfl⟩
theorem Encoding.bit_4_B : Encoding.Statement .bit_4_B := ⟨rfl, by decide, rfl⟩
theorem Encoding.bit_4_C : Encoding.Statement .bit_4_C := ⟨rfl, by decide, rfl⟩
theorem Encoding.bit_4_D : Encoding.Statement .bit_4_D := ⟨rfl, by decide, rfl⟩
theorem Encoding.bit_4_E : Encoding.Statement .bit_4_E := ⟨rfl, by decide, rfl⟩
theorem Encoding.bit_4_H : Encoding.Statement .bit_4_H := ⟨rfl, by decide, rfl⟩
theorem Encoding.bit_4_L : Encoding.Statement .bit_4_L := ⟨rfl, by decide, rfl⟩
theorem Encoding.bit_4_atHL : Encoding.Statement .bit_4_atHL := ⟨rfl, by decide, rfl⟩
theorem Encoding.bit_4_A : Encoding.Statement .bit_4_A := ⟨rfl, by decide, rfl⟩
theorem Encoding.bit_5_B : Encoding.Statement .bit_5_B := ⟨rfl, by decide, rfl⟩
theorem Encoding.bit_5_C : Encoding.Statement .bit_5_C := ⟨rfl, by decide, rfl⟩
theorem Encoding.bit_5_D : Encoding.Statement .bit_5_D := ⟨rfl, by decide, rfl⟩
theorem Encoding.bit_5_E : Encoding.Statement .bit_5_E := ⟨rfl, by decide, rfl⟩
theorem Encoding.bit_5_H : Encoding.Statement .bit_5_H := ⟨rfl, by decide, rfl⟩
theorem Encoding.bit_5_L : Encoding.Statement .bit_5_L := ⟨rfl, by decide, rfl⟩
theorem Encoding.bit_5_atHL : Encoding.Statement .bit_5_atHL := ⟨rfl, by decide, rfl⟩
theorem Encoding.bit_5_A : Encoding.Statement .bit_5_A := ⟨rfl, by decide, rfl⟩
theorem Encoding.bit_6_B : Encoding.Statement .bit_6_B := ⟨rfl, by decide, rfl⟩
theorem Encoding.bit_6_C : Encoding.Statement .bit_6_C := ⟨rfl, by decide, rfl⟩
theorem Encoding.bit_6_D : Encoding.Statement .bit_6_D := ⟨rfl, by decide, rfl⟩
theorem Encoding.bit_6_E : Encoding.Statement .bit_6_E := ⟨rfl, by decide, rfl⟩
theorem Encoding.bit_6_H : Encoding.Statement .bit_6_H := ⟨rfl, by decide, rfl⟩
theorem Encoding.bit_6_L : Encoding.Statement .bit_6_L := ⟨rfl, by decide, rfl⟩
theorem Encoding.bit_6_atHL : Encoding.Statement .bit_6_atHL := ⟨rfl, by decide, rfl⟩
theorem Encoding.bit_6_A : Encoding.Statement .bit_6_A := ⟨rfl, by decide, rfl⟩
theorem Encoding.bit_7_B : Encoding.Statement .bit_7_B := ⟨rfl, by decide, rfl⟩
theorem Encoding.bit_7_C : Encoding.Statement .bit_7_C := ⟨rfl, by decide, rfl⟩
theorem Encoding.bit_7_D : Encoding.Statement .bit_7_D := ⟨rfl, by decide, rfl⟩
theorem Encoding.bit_7_E : Encoding.Statement .bit_7_E := ⟨rfl, by decide, rfl⟩
theorem Encoding.bit_7_H : Encoding.Statement .bit_7_H := ⟨rfl, by decide, rfl⟩
theorem Encoding.bit_7_L : Encoding.Statement .bit_7_L := ⟨rfl, by decide, rfl⟩
theorem Encoding.bit_7_atHL : Encoding.Statement .bit_7_atHL := ⟨rfl, by decide, rfl⟩
theorem Encoding.bit_7_A : Encoding.Statement .bit_7_A := ⟨rfl, by decide, rfl⟩
theorem Encoding.res_0_B : Encoding.Statement .res_0_B := ⟨rfl, by decide, rfl⟩
theorem Encoding.res_0_C : Encoding.Statement .res_0_C := ⟨rfl, by decide, rfl⟩
theorem Encoding.res_0_D : Encoding.Statement .res_0_D := ⟨rfl, by decide, rfl⟩
theorem Encoding.res_0_E : Encoding.Statement .res_0_E := ⟨rfl, by decide, rfl⟩
theorem Encoding.res_0_H : Encoding.Statement .res_0_H := ⟨rfl, by decide, rfl⟩
theorem Encoding.res_0_L : Encoding.Statement .res_0_L := ⟨rfl, by decide, rfl⟩
theorem Encoding.res_0_atHL : Encoding.Statement .res_0_atHL := ⟨rfl, by decide, rfl⟩
theorem Encoding.res_0_A : Encoding.Statement .res_0_A := ⟨rfl, by decide, rfl⟩
theorem Encoding.res_1_B : Encoding.Statement .res_1_B := ⟨rfl, by decide, rfl⟩
theorem Encoding.res_1_C : Encoding.Statement .res_1_C := ⟨rfl, by decide, rfl⟩
theorem Encoding.res_1_D : Encoding.Statement .res_1_D := ⟨rfl, by decide, rfl⟩
theorem Encoding.res_1_E : Encoding.Statement .res_1_E := ⟨rfl, by decide, rfl⟩
theorem Encoding.res_1_H : Encoding.Statement .res_1_H := ⟨rfl, by decide, rfl⟩
theorem Encoding.res_1_L : Encoding.Statement .res_1_L := ⟨rfl, by decide, rfl⟩
theorem Encoding.res_1_atHL : Encoding.Statement .res_1_atHL := ⟨rfl, by decide, rfl⟩
theorem Encoding.res_1_A : Encoding.Statement .res_1_A := ⟨rfl, by decide, rfl⟩
theorem Encoding.res_2_B : Encoding.Statement .res_2_B := ⟨rfl, by decide, rfl⟩
theorem Encoding.res_2_C : Encoding.Statement .res_2_C := ⟨rfl, by decide, rfl⟩
theorem Encoding.res_2_D : Encoding.Statement .res_2_D := ⟨rfl, by decide, rfl⟩
theorem Encoding.res_2_E : Encoding.Statement .res_2_E := ⟨rfl, by decide, rfl⟩
theorem Encoding.res_2_H : Encoding.Statement .res_2_H := ⟨rfl, by decide, rfl⟩
theorem Encoding.res_2_L : Encoding.Statement .res_2_L := ⟨rfl, by decide, rfl⟩
theorem Encoding.res_2_atHL : Encoding.Statement .res_2_atHL := ⟨rfl, by decide, rfl⟩
theorem Encoding.res_2_A : Encoding.Statement .res_2_A := ⟨rfl, by decide, rfl⟩
theorem Encoding.res_3_B : Encoding.Statement .res_3_B := ⟨rfl, by decide, rfl⟩
theorem Encoding.res_3_C : Encoding.Statement .res_3_C := ⟨rfl, by decide, rfl⟩
theorem Encoding.res_3_D : Encoding.Statement .res_3_D := ⟨rfl, by decide, rfl⟩
theorem Encoding.res_3_E : Encoding.Statement .res_3_E := ⟨rfl, by decide, rfl⟩
theorem Encoding.res_3_H : Encoding.Statement .res_3_H := ⟨rfl, by decide, rfl⟩
theorem Encoding.res_3_L : Encoding.Statement .res_3_L := ⟨rfl, by decide, rfl⟩
theorem Encoding.res_3_atHL : Encoding.Statement .res_3_atHL := ⟨rfl, by decide, rfl⟩
theorem Encoding.res_3_A : Encoding.Statement .res_3_A := ⟨rfl, by decide, rfl⟩
theorem Encoding.res_4_B : Encoding.Statement .res_4_B := ⟨rfl, by decide, rfl⟩
theorem Encoding.res_4_C : Encoding.Statement .res_4_C := ⟨rfl, by decide, rfl⟩
theorem Encoding.res_4_D : Encoding.Statement .res_4_D := ⟨rfl, by decide, rfl⟩
theorem Encoding.res_4_E : Encoding.Statement .res_4_E := ⟨rfl, by decide, rfl⟩
theorem Encoding.res_4_H : Encoding.Statement .res_4_H := ⟨rfl, by decide, rfl⟩
theorem Encoding.res_4_L : Encoding.Statement .res_4_L := ⟨rfl, by decide, rfl⟩
theorem Encoding.res_4_atHL : Encoding.Statement .res_4_atHL := ⟨rfl, by decide, rfl⟩
theorem Encoding.res_4_A : Encoding.Statement .res_4_A := ⟨rfl, by decide, rfl⟩
theorem Encoding.res_5_B : Encoding.Statement .res_5_B := ⟨rfl, by decide, rfl⟩
theorem Encoding.res_5_C : Encoding.Statement .res_5_C := ⟨rfl, by decide, rfl⟩
theorem Encoding.res_5_D : Encoding.Statement .res_5_D := ⟨rfl, by decide, rfl⟩
theorem Encoding.res_5_E : Encoding.Statement .res_5_E := ⟨rfl, by decide, rfl⟩
theorem Encoding.res_5_H : Encoding.Statement .res_5_H := ⟨rfl, by decide, rfl⟩
theorem Encoding.res_5_L : Encoding.Statement .res_5_L := ⟨rfl, by decide, rfl⟩
theorem Encoding.res_5_atHL : Encoding.Statement .res_5_atHL := ⟨rfl, by decide, rfl⟩
theorem Encoding.res_5_A : Encoding.Statement .res_5_A := ⟨rfl, by decide, rfl⟩
theorem Encoding.res_6_B : Encoding.Statement .res_6_B := ⟨rfl, by decide, rfl⟩
theorem Encoding.res_6_C : Encoding.Statement .res_6_C := ⟨rfl, by decide, rfl⟩
theorem Encoding.res_6_D : Encoding.Statement .res_6_D := ⟨rfl, by decide, rfl⟩
theorem Encoding.res_6_E : Encoding.Statement .res_6_E := ⟨rfl, by decide, rfl⟩
theorem Encoding.res_6_H : Encoding.Statement .res_6_H := ⟨rfl, by decide, rfl⟩
theorem Encoding.res_6_L : Encoding.Statement .res_6_L := ⟨rfl, by decide, rfl⟩
theorem Encoding.res_6_atHL : Encoding.Statement .res_6_atHL := ⟨rfl, by decide, rfl⟩
theorem Encoding.res_6_A : Encoding.Statement .res_6_A := ⟨rfl, by decide, rfl⟩
theorem Encoding.res_7_B : Encoding.Statement .res_7_B := ⟨rfl, by decide, rfl⟩
theorem Encoding.res_7_C : Encoding.Statement .res_7_C := ⟨rfl, by decide, rfl⟩
theorem Encoding.res_7_D : Encoding.Statement .res_7_D := ⟨rfl, by decide, rfl⟩
theorem Encoding.res_7_E : Encoding.Statement .res_7_E := ⟨rfl, by decide, rfl⟩
theorem Encoding.res_7_H : Encoding.Statement .res_7_H := ⟨rfl, by decide, rfl⟩
theorem Encoding.res_7_L : Encoding.Statement .res_7_L := ⟨rfl, by decide, rfl⟩
theorem Encoding.res_7_atHL : Encoding.Statement .res_7_atHL := ⟨rfl, by decide, rfl⟩
theorem Encoding.res_7_A : Encoding.Statement .res_7_A := ⟨rfl, by decide, rfl⟩
theorem Encoding.set_0_B : Encoding.Statement .set_0_B := ⟨rfl, by decide, rfl⟩
theorem Encoding.set_0_C : Encoding.Statement .set_0_C := ⟨rfl, by decide, rfl⟩
theorem Encoding.set_0_D : Encoding.Statement .set_0_D := ⟨rfl, by decide, rfl⟩
theorem Encoding.set_0_E : Encoding.Statement .set_0_E := ⟨rfl, by decide, rfl⟩
theorem Encoding.set_0_H : Encoding.Statement .set_0_H := ⟨rfl, by decide, rfl⟩
theorem Encoding.set_0_L : Encoding.Statement .set_0_L := ⟨rfl, by decide, rfl⟩
theorem Encoding.set_0_atHL : Encoding.Statement .set_0_atHL := ⟨rfl, by decide, rfl⟩
theorem Encoding.set_0_A : Encoding.Statement .set_0_A := ⟨rfl, by decide, rfl⟩
theorem Encoding.set_1_B : Encoding.Statement .set_1_B := ⟨rfl, by decide, rfl⟩
theorem Encoding.set_1_C : Encoding.Statement .set_1_C := ⟨rfl, by decide, rfl⟩
theorem Encoding.set_1_D : Encoding.Statement .set_1_D := ⟨rfl, by decide, rfl⟩
theorem Encoding.set_1_E : Encoding.Statement .set_1_E := ⟨rfl, by decide, rfl⟩
theorem Encoding.set_1_H : Encoding.Statement .set_1_H := ⟨rfl, by decide, rfl⟩
theorem Encoding.set_1_L : Encoding.Statement .set_1_L := ⟨rfl, by decide, rfl⟩
theorem Encoding.set_1_atHL : Encoding.Statement .set_1_atHL := ⟨rfl, by decide, rfl⟩
theorem Encoding.set_1_A : Encoding.Statement .set_1_A := ⟨rfl, by decide, rfl⟩
theorem Encoding.set_2_B : Encoding.Statement .set_2_B := ⟨rfl, by decide, rfl⟩
theorem Encoding.set_2_C : Encoding.Statement .set_2_C := ⟨rfl, by decide, rfl⟩
theorem Encoding.set_2_D : Encoding.Statement .set_2_D := ⟨rfl, by decide, rfl⟩
theorem Encoding.set_2_E : Encoding.Statement .set_2_E := ⟨rfl, by decide, rfl⟩
theorem Encoding.set_2_H : Encoding.Statement .set_2_H := ⟨rfl, by decide, rfl⟩
theorem Encoding.set_2_L : Encoding.Statement .set_2_L := ⟨rfl, by decide, rfl⟩
theorem Encoding.set_2_atHL : Encoding.Statement .set_2_atHL := ⟨rfl, by decide, rfl⟩
theorem Encoding.set_2_A : Encoding.Statement .set_2_A := ⟨rfl, by decide, rfl⟩
theorem Encoding.set_3_B : Encoding.Statement .set_3_B := ⟨rfl, by decide, rfl⟩
theorem Encoding.set_3_C : Encoding.Statement .set_3_C := ⟨rfl, by decide, rfl⟩
theorem Encoding.set_3_D : Encoding.Statement .set_3_D := ⟨rfl, by decide, rfl⟩
theorem Encoding.set_3_E : Encoding.Statement .set_3_E := ⟨rfl, by decide, rfl⟩
theorem Encoding.set_3_H : Encoding.Statement .set_3_H := ⟨rfl, by decide, rfl⟩
theorem Encoding.set_3_L : Encoding.Statement .set_3_L := ⟨rfl, by decide, rfl⟩
theorem Encoding.set_3_atHL : Encoding.Statement .set_3_atHL := ⟨rfl, by decide, rfl⟩
theorem Encoding.set_3_A : Encoding.Statement .set_3_A := ⟨rfl, by decide, rfl⟩
theorem Encoding.set_4_B : Encoding.Statement .set_4_B := ⟨rfl, by decide, rfl⟩
theorem Encoding.set_4_C : Encoding.Statement .set_4_C := ⟨rfl, by decide, rfl⟩
theorem Encoding.set_4_D : Encoding.Statement .set_4_D := ⟨rfl, by decide, rfl⟩
theorem Encoding.set_4_E : Encoding.Statement .set_4_E := ⟨rfl, by decide, rfl⟩
theorem Encoding.set_4_H : Encoding.Statement .set_4_H := ⟨rfl, by decide, rfl⟩
theorem Encoding.set_4_L : Encoding.Statement .set_4_L := ⟨rfl, by decide, rfl⟩
theorem Encoding.set_4_atHL : Encoding.Statement .set_4_atHL := ⟨rfl, by decide, rfl⟩
theorem Encoding.set_4_A : Encoding.Statement .set_4_A := ⟨rfl, by decide, rfl⟩
theorem Encoding.set_5_B : Encoding.Statement .set_5_B := ⟨rfl, by decide, rfl⟩
theorem Encoding.set_5_C : Encoding.Statement .set_5_C := ⟨rfl, by decide, rfl⟩
theorem Encoding.set_5_D : Encoding.Statement .set_5_D := ⟨rfl, by decide, rfl⟩
theorem Encoding.set_5_E : Encoding.Statement .set_5_E := ⟨rfl, by decide, rfl⟩
theorem Encoding.set_5_H : Encoding.Statement .set_5_H := ⟨rfl, by decide, rfl⟩
theorem Encoding.set_5_L : Encoding.Statement .set_5_L := ⟨rfl, by decide, rfl⟩
theorem Encoding.set_5_atHL : Encoding.Statement .set_5_atHL := ⟨rfl, by decide, rfl⟩
theorem Encoding.set_5_A : Encoding.Statement .set_5_A := ⟨rfl, by decide, rfl⟩
theorem Encoding.set_6_B : Encoding.Statement .set_6_B := ⟨rfl, by decide, rfl⟩
theorem Encoding.set_6_C : Encoding.Statement .set_6_C := ⟨rfl, by decide, rfl⟩
theorem Encoding.set_6_D : Encoding.Statement .set_6_D := ⟨rfl, by decide, rfl⟩
theorem Encoding.set_6_E : Encoding.Statement .set_6_E := ⟨rfl, by decide, rfl⟩
theorem Encoding.set_6_H : Encoding.Statement .set_6_H := ⟨rfl, by decide, rfl⟩
theorem Encoding.set_6_L : Encoding.Statement .set_6_L := ⟨rfl, by decide, rfl⟩
theorem Encoding.set_6_atHL : Encoding.Statement .set_6_atHL := ⟨rfl, by decide, rfl⟩
theorem Encoding.set_6_A : Encoding.Statement .set_6_A := ⟨rfl, by decide, rfl⟩
theorem Encoding.set_7_B : Encoding.Statement .set_7_B := ⟨rfl, by decide, rfl⟩
theorem Encoding.set_7_C : Encoding.Statement .set_7_C := ⟨rfl, by decide, rfl⟩
theorem Encoding.set_7_D : Encoding.Statement .set_7_D := ⟨rfl, by decide, rfl⟩
theorem Encoding.set_7_E : Encoding.Statement .set_7_E := ⟨rfl, by decide, rfl⟩
theorem Encoding.set_7_H : Encoding.Statement .set_7_H := ⟨rfl, by decide, rfl⟩
theorem Encoding.set_7_L : Encoding.Statement .set_7_L := ⟨rfl, by decide, rfl⟩
theorem Encoding.set_7_atHL : Encoding.Statement .set_7_atHL := ⟨rfl, by decide, rfl⟩
theorem Encoding.set_7_A : Encoding.Statement .set_7_A := ⟨rfl, by decide, rfl⟩

end Sys2Proof.Laws
end

