-- ==== Sys2Proof/Tests/Slice0.lean ====
section
/-! SUPPORT. Tests. The expected values are the spec's: words spelled out from its encoding tables (30_encoding.md) and the
vectors of 95_test_vectors.md, each under the rule its row names. After them, for each statement of Obligations.lean that
has hypotheses, a state and operands that meet them all, one for each clause. -/

namespace Sys2Proof.Tests

open Sys2Proof.Machine

/-- The next step from s, with the code placed at its PC, answers a state with the property. -/
def leads (code : List Byte) (s : State) (p : State → Bool) : Bool :=
  match step (State.placeBytes code s.pc s) with
  | .next t => p t
  | _ => false

/-- An operation of the core answers this reply and a state with the property. -/
def replies (c : HostCall) (s : State) (reply : Reply) (p : State → Bool) : Bool :=
  match hostCall c s with
  | .next (t, r) => decide (r = reply) && p t
  | _ => false

/-- A core about to run the code at 0x0100. -/
def at0100 (code : List Byte) : State := State.placeBytes code 0x0100#16 { State.reset with pc := 0x0100#16 }

/-- A core about to run the code at 0x0200. -/
def at0200 (code : List Byte) : State := State.placeBytes code 0x0200#16 { State.reset with pc := 0x0200#16 }

/-! ### Well-formedness: each check refuses an ill-formed term -/

/-- LD (HL),(HL) is no variant (R340). -/
theorem test_wf_refuses_ld_hl_hl : (Form.ldR8R8 .hlInd .hlInd).wf = false := by decide
theorem test_wf_admits_ld_hl_b : (Form.ldR8R8 .hlInd .b).wf = true := by decide
/-- An operand byte too few, and one too many (R302). -/
theorem test_wf_refuses_missing_operand : Assembled.wf ⟨.jp_a16, [0x34#8]⟩ = false := by decide
theorem test_wf_refuses_extra_operand : Assembled.wf ⟨.bit_7_H, [0x00#8]⟩ = false := by decide
theorem test_wf_admits_operands : Assembled.wf ⟨.jp_a16, [0x34#8, 0x12#8]⟩ = true := by decide

/-! ### Decoding: words written out bit by bit from R305, R310 to R318, R323 and R324 -/

/-- `00 pp 0001` with p = 2, HL, then the low and the high byte (R900). -/
theorem test_decode_ld_HL_d16 : decodeBytes [0b00100001#8, 0x34#8, 0x12#8] = .ok (⟨.ld_HL_d16, [0x34#8, 0x12#8]⟩, []) := rfl
/-- `01 yyy zzz` with y = 2, D, and z = 7, A (R800). -/
theorem test_decode_ld_D_A : decodeBytes [0b01010111#8] = .ok (⟨.ld_D_A, []⟩, []) := rfl
/-- `01 110 110` is HALT (R1110). -/
theorem test_decode_halt : decodeBytes [0b01110110#8] = .ok (⟨.halt, []⟩, []) := rfl
/-- `10 ooo zzz` with o = 3, SBC, and z = 6, (HL) (R526). -/
theorem test_decode_sbc_A_atHL : decodeBytes [0b10011110#8] = .ok (⟨.sbc_A_atHL, []⟩, []) := rfl
/-- `00 pp 1001` with p = 3, SP (R600). -/
theorem test_decode_add_HL_SP : decodeBytes [0b00111001#8] = .ok (⟨.add_HL_SP, []⟩, []) := rfl
/-- `110 cc 100` with cc = 3, C (R730). -/
theorem test_decode_call_C : decodeBytes [0b11011100#8, 0x00#8, 0x40#8] = .ok (⟨.call_C_a16, [0x00#8, 0x40#8]⟩, []) := rfl
/-- `11 yyy 111` with y = 5 (R760). -/
theorem test_decode_rst_28 : decodeBytes [0b11101111#8] = .ok (⟨.rst_28, []⟩, []) := rfl
/-- `11 pp 0101` with p = 3, AF (R941). -/
theorem test_decode_push_AF : decodeBytes [0b11110101#8] = .ok (⟨.push_AF, []⟩, []) := rfl
/-- LDH (a8),A: 0xE0 a8 (R826). -/
theorem test_decode_ldh_atA8_A : decodeBytes [0xE0#8, 0x80#8] = .ok (⟨.ldh_atA8_A, [0x80#8]⟩, []) := rfl
/-- 0xCB then `00 110 zzz` with z = 4, H (R1022). -/
theorem test_decode_swap_H : decodeBytes [0xCB#8, 0b00110100#8] = .ok (⟨.swap_H, []⟩, []) := rfl
/-- 0xCB then `10 bbb zzz` with b = 3 and z = 1, C (R1032). -/
theorem test_decode_res_3_C : decodeBytes [0xCB#8, 0b10011001#8] = .ok (⟨.res_3_C, []⟩, []) := rfl
/-- 0xCB 0xCB is SET 1,E (R325). -/
theorem test_decode_cb_cb : decodeBytes [0xCB#8, 0xCB#8] = .ok (⟨.set_1_E, []⟩, []) := rfl
/-- STOP takes any second byte (D24). -/
theorem test_decode_stop : decodeBytes [0b00010000#8, 0x5A#8] = .ok (⟨.stop, [0x5A#8]⟩, []) := rfl
/-- `11 111 101` is illegal (R326), rejected by name. -/
theorem test_decode_illegal : decodeBytes [0b11111101#8] = .error (.unimplemented 0xFD#8 false) := rfl
/-- A string that ends inside an instruction. -/
theorem test_decode_truncated : decodeBytes [0xC3#8, 0x50#8] = .error .truncated := rfl
/-- The encoder's bytes, as R302 orders them. -/
theorem test_encode_jp : encode ⟨.jp_a16, [0x50#8, 0x01#8]⟩ = [0xC3#8, 0x50#8, 0x01#8] := by decide
theorem test_encode_bit : encode ⟨.bit_7_H, []⟩ = [0xCB#8, 0x7C#8] := by decide

/-! ### Words numbered as opcode_table.json numbers them, and running them as the first step after reset -/

theorem test_tableWord_plain : decodeTableWord 8 0x76 = some .halt := by decide
theorem test_tableWord_operands : decodeTableWord 8 0xC3 = some .jp_a16 := by decide
theorem test_tableWord_cb : decodeTableWord 16 0xCB06 = some .rlc_atHL := by decide
theorem test_tableWord_cb_low_first : decodeTableWord 16 0x06CB = some .rlc_atHL := by decide
theorem test_tableWord_cb_cb : decodeTableWord 16 0xCBCB = some .set_1_E := by decide
theorem test_tableWord_illegal : decodeTableWord 8 0xD3 = none := by decide
theorem test_fetchWord_inc_A : step (State.reset.withFetchWord 8 0x3C) =
    exec .inc_A (State.reset.withFetchWord 8 0x3C) := rfl
theorem test_fetchWord_set_0_B : step (State.reset.withFetchWord 16 0xCBC0) =
    exec .set_0_B (State.reset.withFetchWord 16 0xCBC0) := rfl
theorem test_fetchWord_jp : leads [0xC3#8, 0x00#8, 0x00#8] State.reset (fun t => t.pc = 0x0000#16) = true := by decide

/-! ### Views (95_test_vectors.md S1 to S3, S11) -/

theorem test_setBC : (State.reset.setBC 0x1234#16).b = 0x12#8 ∧ (State.reset.setBC 0x1234#16).c = 0x34#8 ∧
    (State.reset.setBC 0x1234#16).bc = 0x1234#16 := by decide
theorem test_setHL : (State.reset.setHL 0xABCD#16).h = 0xAB#8 ∧ (State.reset.setHL 0xABCD#16).l = 0xCD#8 := by decide
theorem test_flags_byte : Flags.ofByte 0xA5#8 = ⟨true, false, true, false⟩ ∧ (Flags.ofByte 0xA5#8).toByte = 0xA0#8 ∧
    (Flags.ofByte 0x3C#8).toByte = 0x30#8 := by decide

/-! ### Instructions (95_test_vectors.md, part 2) -/

/-- R510, S4. -/
theorem test_add_A_C_half : leads [0x81#8] { State.reset with a := 0x0F#8, c := 0x01#8, pc := 0x0100#16 }
    (fun t => t.a = 0x10#8 ∧ t.f = ⟨false, false, true, false⟩ ∧ t.pc = 0x0101#16) = true := by decide

/-- R510, S5. -/
theorem test_add_A_C_wrap : leads [0x81#8] { State.reset with a := 0xFF#8, c := 0x01#8, pc := 0x0100#16 }
    (fun t => t.a = 0x00#8 ∧ t.f = ⟨true, false, true, true⟩) = true := by decide

/-- R510. -/
theorem test_add_A_A : leads [0x87#8] { State.reset with a := 0x80#8, pc := 0x0100#16 }
    (fun t => t.a = 0x00#8 ∧ t.f = ⟨true, false, false, true⟩) = true := by decide

/-- R510, S13. -/
theorem test_add_A_B_top : leads [0x80#8] { State.reset with pc := 0xFFFF#16 }
    (fun t => t.pc = 0x0000#16) = true := by decide

/-- R512. -/
theorem test_add_A_d8 : leads [0xC6#8, 0xFF#8] { State.reset with a := 0x3C#8, pc := 0x0100#16 }
    (fun t => t.a = 0x3B#8 ∧ t.f = ⟨false, false, true, true⟩ ∧ t.pc = 0x0102#16) = true := by decide

/-- R515. -/
theorem test_adc_A_B_half : leads [0x88#8] { State.reset with a := 0x0E#8, b := 0x01#8, f := ⟨false, false, false, true⟩, pc := 0x0100#16 }
    (fun t => t.a = 0x10#8 ∧ t.f = ⟨false, false, true, false⟩) = true := by decide

/-- R515. -/
theorem test_adc_A_B_carry : leads [0x88#8] { State.reset with a := 0xFF#8, b := 0x00#8, f := ⟨false, false, false, true⟩, pc := 0x0100#16 }
    (fun t => t.a = 0x00#8 ∧ t.f = ⟨true, false, true, true⟩) = true := by decide

/-- R517. -/
theorem test_adc_A_d8 : leads [0xCE#8, 0x0F#8] { State.reset with a := 0x00#8, f := ⟨false, false, false, true⟩, pc := 0x0100#16 }
    (fun t => t.a = 0x10#8 ∧ t.f = ⟨false, false, true, false⟩) = true := by decide

/-- R520. -/
theorem test_sub_A_B_half : leads [0x90#8] { State.reset with a := 0x3E#8, b := 0x0F#8, pc := 0x0100#16 }
    (fun t => t.a = 0x2F#8 ∧ t.f = ⟨false, true, true, false⟩) = true := by decide

/-- R520. -/
theorem test_sub_A_B_borrow : leads [0x90#8] { State.reset with a := 0x3E#8, b := 0x40#8, pc := 0x0100#16 }
    (fun t => t.a = 0xFE#8 ∧ t.f = ⟨false, true, false, true⟩) = true := by decide

/-- R520. -/
theorem test_sub_A_A : leads [0x97#8] { State.reset with a := 0x12#8, pc := 0x0100#16 }
    (fun t => t.a = 0x00#8 ∧ t.f = ⟨true, true, false, false⟩) = true := by decide

/-- R525. -/
theorem test_sbc_A_H : leads [0x9C#8] { State.reset with a := 0x3B#8, h := 0x2A#8, f := ⟨false, false, false, true⟩, pc := 0x0100#16 }
    (fun t => t.a = 0x10#8 ∧ t.f = ⟨false, true, false, false⟩) = true := by decide

/-- R527. -/
theorem test_sbc_A_d8 : leads [0xDE#8, 0x00#8] { State.reset with a := 0x00#8, f := ⟨false, false, false, true⟩, pc := 0x0100#16 }
    (fun t => t.a = 0xFF#8 ∧ t.f = ⟨false, true, true, true⟩) = true := by decide

/-- R525. -/
theorem test_sbc_A_A : leads [0x9F#8] { State.reset with a := 0x55#8, f := ⟨false, false, false, true⟩, pc := 0x0100#16 }
    (fun t => t.a = 0xFF#8 ∧ t.f = ⟨false, true, true, true⟩) = true := by decide

/-- R532. -/
theorem test_and_A_d8 : leads [0xE6#8, 0x38#8] { State.reset with a := 0x5A#8, pc := 0x0100#16 }
    (fun t => t.a = 0x18#8 ∧ t.f = ⟨false, false, true, false⟩) = true := by decide

/-- R532. -/
theorem test_and_A_d8_zero : leads [0xE6#8, 0x00#8] { State.reset with a := 0x5A#8, pc := 0x0100#16 }
    (fun t => t.a = 0x00#8 ∧ t.f = ⟨true, false, true, false⟩) = true := by decide

/-- R535. -/
theorem test_xor_A_A : leads [0xAF#8] { State.reset with a := 0xFF#8, f := ⟨false, true, true, true⟩, pc := 0x0100#16 }
    (fun t => t.a = 0x00#8 ∧ t.f = ⟨true, false, false, false⟩) = true := by decide

/-- R537. -/
theorem test_xor_A_d8 : leads [0xEE#8, 0x0F#8] { State.reset with a := 0xFF#8, pc := 0x0100#16 }
    (fun t => t.a = 0xF0#8 ∧ t.f = ⟨false, false, false, false⟩) = true := by decide

/-- R541. -/
theorem test_or_A_atHL : leads [0xB6#8] { State.reset with a := 0x5A#8, h := 0xC0#8, l := 0x00#8, pc := 0x0100#16, mem := [(0xC000, 0x0F#8)] }
    (fun t => t.a = 0x5F#8 ∧ t.f = ⟨false, false, false, false⟩) = true := by decide

/-- R540. -/
theorem test_or_A_A : leads [0xB7#8] { State.reset with a := 0x00#8, f := ⟨false, true, true, true⟩, pc := 0x0100#16 }
    (fun t => t.a = 0x00#8 ∧ t.f = ⟨true, false, false, false⟩) = true := by decide

/-- R545. -/
theorem test_cp_A_B : leads [0xB8#8] { State.reset with a := 0x3C#8, b := 0x2F#8, pc := 0x0100#16 }
    (fun t => t.a = 0x3C#8 ∧ t.f = ⟨false, true, true, false⟩) = true := by decide

/-- R547. -/
theorem test_cp_A_d8_equal : leads [0xFE#8, 0x3C#8] { State.reset with a := 0x3C#8, pc := 0x0100#16 }
    (fun t => t.a = 0x3C#8 ∧ t.f = ⟨true, true, false, false⟩) = true := by decide

/-- R547. -/
theorem test_cp_A_d8_below : leads [0xFE#8, 0x40#8] { State.reset with a := 0x3C#8, pc := 0x0100#16 }
    (fun t => t.a = 0x3C#8 ∧ t.f = ⟨false, true, false, true⟩) = true := by decide

/-- R550. -/
theorem test_inc_A : leads [0x3C#8] { State.reset with a := 0xFF#8, f := ⟨false, false, false, true⟩, pc := 0x0100#16 }
    (fun t => t.a = 0x00#8 ∧ t.f = ⟨true, false, true, true⟩) = true := by decide

/-- R551. -/
theorem test_inc_atHL : leads [0x34#8] { State.reset with h := 0xC0#8, l := 0x00#8, pc := 0x0100#16, mem := [(0xC000, 0x0F#8)] }
    (fun t => t.f = ⟨false, false, true, false⟩ ∧ t.readByte 0xC000#16 = 0x10#8) = true := by decide

/-- R555. -/
theorem test_dec_C_zero : leads [0x0D#8] { State.reset with c := 0x01#8, f := ⟨false, false, false, true⟩, pc := 0x0100#16 }
    (fun t => t.c = 0x00#8 ∧ t.f = ⟨true, true, false, true⟩) = true := by decide

/-- R555. -/
theorem test_dec_C_wrap : leads [0x0D#8] { State.reset with c := 0x00#8, pc := 0x0100#16 }
    (fun t => t.c = 0xFF#8 ∧ t.f = ⟨false, true, true, false⟩) = true := by decide

/-- R556. -/
theorem test_dec_atHL : leads [0x35#8] { State.reset with h := 0xC0#8, l := 0x00#8, pc := 0x0100#16, mem := [(0xC000, 0x0F#8)] }
    (fun t => t.f = ⟨false, true, false, false⟩ ∧ t.readByte 0xC000#16 = 0x0E#8) = true := by decide

/-- R560. -/
theorem test_daa_add : leads [0x27#8] { State.reset with a := 0x9A#8, pc := 0x0100#16 }
    (fun t => t.a = 0x00#8 ∧ t.f = ⟨true, false, false, true⟩) = true := by decide

/-- R560. -/
theorem test_daa_sub : leads [0x27#8] { State.reset with a := 0x00#8, f := ⟨false, true, true, true⟩, pc := 0x0100#16 }
    (fun t => t.a = 0x9A#8 ∧ t.f = ⟨false, true, false, true⟩) = true := by decide

/-- R565. -/
theorem test_cpl : leads [0x2F#8] { State.reset with a := 0x35#8, f := ⟨true, false, false, true⟩, pc := 0x0100#16 }
    (fun t => t.a = 0xCA#8 ∧ t.f = ⟨true, true, true, true⟩) = true := by decide

/-- R570. -/
theorem test_scf : leads [0x37#8] { State.reset with f := ⟨true, true, true, false⟩, pc := 0x0100#16 }
    (fun t => t.f = ⟨true, false, false, true⟩) = true := by decide

/-- R575. -/
theorem test_ccf : leads [0x3F#8] { State.reset with f := ⟨true, true, true, true⟩, pc := 0x0100#16 }
    (fun t => t.f = ⟨true, false, false, false⟩) = true := by decide

/-- R600. -/
theorem test_add_HL_BC : leads [0x09#8] { State.reset with h := 0x8A#8, l := 0x23#8, b := 0x06#8, c := 0x05#8, f := ⟨true, false, false, false⟩, pc := 0x0100#16 }
    (fun t => t.h = 0x90#8 ∧ t.l = 0x28#8 ∧ t.f = ⟨true, false, true, false⟩) = true := by decide

/-- R600. -/
theorem test_add_HL_HL : leads [0x29#8] { State.reset with h := 0x8A#8, l := 0x23#8, pc := 0x0100#16 }
    (fun t => t.h = 0x14#8 ∧ t.l = 0x46#8 ∧ t.f = ⟨false, false, true, true⟩) = true := by decide

/-- R600. -/
theorem test_add_HL_SP : leads [0x39#8] { State.reset with h := 0xFF#8, l := 0xFF#8, sp := 0x0001#16, pc := 0x0100#16 }
    (fun t => t.h = 0x00#8 ∧ t.l = 0x00#8 ∧ t.f = ⟨false, false, true, true⟩) = true := by decide

/-- R610. -/
theorem test_inc_BC : leads [0x03#8] { State.reset with b := 0xFF#8, c := 0xFF#8, f := ⟨true, true, true, true⟩, pc := 0x0100#16 }
    (fun t => t.b = 0x00#8 ∧ t.c = 0x00#8 ∧ t.f = ⟨true, true, true, true⟩) = true := by decide

/-- R620. -/
theorem test_dec_SP : leads [0x3B#8] { State.reset with sp := 0x0000#16, pc := 0x0100#16 }
    (fun t => t.sp = 0xFFFF#16) = true := by decide

/-- R630. -/
theorem test_add_SP_e8_negative : leads [0xE8#8, 0xFF#8] { State.reset with sp := 0xFFF8#16, pc := 0x0100#16 }
    (fun t => t.sp = 0xFFF7#16 ∧ t.f = ⟨false, false, true, true⟩) = true := by decide

/-- R630. -/
theorem test_add_SP_e8_least : leads [0xE8#8, 0x80#8] { State.reset with sp := 0x0000#16, f := ⟨true, true, true, true⟩, pc := 0x0100#16 }
    (fun t => t.sp = 0xFF80#16 ∧ t.f = ⟨false, false, false, false⟩) = true := by decide

/-- R700, S6. -/
theorem test_jp_Z_taken : leads [0xCA#8, 0x34#8, 0x12#8] { State.reset with f := ⟨true, false, false, false⟩, pc := 0x0100#16 }
    (fun t => t.pc = 0x1234#16) = true := by decide

/-- R700, S8. -/
theorem test_jp_NZ_not_taken : leads [0xC2#8, 0x34#8, 0x12#8] { State.reset with f := ⟨true, false, false, false⟩, pc := 0x0100#16 }
    (fun t => t.pc = 0x0103#16) = true := by decide

/-- R700, S12. -/
theorem test_jp_C_wraps : leads [0xDA#8, 0x00#8, 0x00#8] { State.reset with pc := 0xFFFE#16 }
    (fun t => t.pc = 0x0001#16) = true := by decide

/-- R701. -/
theorem test_jp_a16 : leads [0xC3#8, 0x50#8, 0x01#8] { State.reset with pc := 0x0100#16 }
    (fun t => t.pc = 0x0150#16) = true := by decide

/-- R710. -/
theorem test_jp_HL : leads [0xE9#8] { State.reset with h := 0xC0#8, l := 0x12#8, pc := 0x0100#16 }
    (fun t => t.pc = 0xC012#16) = true := by decide

/-- R720. -/
theorem test_jr_NZ_back : leads [0x20#8, 0xFB#8] { State.reset with pc := 0x0200#16 }
    (fun t => t.pc = 0x01FD#16) = true := by decide

/-- R720. -/
theorem test_jr_NZ_not_taken : leads [0x20#8, 0xFB#8] { State.reset with pc := 0x0200#16, f := ⟨true, false, false, false⟩ }
    (fun t => t.pc = 0x0202#16) = true := by decide

/-- R721. -/
theorem test_jr_e8_forward : leads [0x18#8, 0x05#8] { State.reset with pc := 0xFFFE#16 }
    (fun t => t.pc = 0x0005#16) = true := by decide

/-- R721. -/
theorem test_jr_e8_back : leads [0x18#8, 0x80#8] { State.reset with pc := 0x0010#16 }
    (fun t => t.pc = 0xFF92#16) = true := by decide

/-- R731. -/
theorem test_call_a16 : leads [0xCD#8, 0x34#8, 0x12#8] { State.reset with pc := 0x0150#16, sp := 0xFFFE#16 }
    (fun t => t.sp = 0xFFFC#16 ∧ t.pc = 0x1234#16 ∧ t.readByte 0xFFFD#16 = 0x01#8 ∧ t.readByte 0xFFFC#16 = 0x53#8) = true := by decide

/-- R730. -/
theorem test_call_NZ_not_taken : leads [0xC4#8, 0x34#8, 0x12#8] { State.reset with pc := 0x0150#16, sp := 0xFFFE#16, f := ⟨true, false, false, false⟩ }
    (fun t => t.sp = 0xFFFE#16 ∧ t.pc = 0x0153#16 ∧ t.readByte 0xFFFD#16 = 0x00#8) = true := by decide

/-- R741. -/
theorem test_ret : leads [0xC9#8] { State.reset with pc := 0x1234#16, sp := 0xFFFC#16, mem := [(0xFFFC, 0x53#8), (0xFFFD, 0x01#8)] }
    (fun t => t.pc = 0x0153#16 ∧ t.sp = 0xFFFE#16) = true := by decide

/-- R740. -/
theorem test_ret_Z_not_taken : leads [0xC8#8] { State.reset with pc := 0x1234#16, sp := 0xFFFC#16, mem := [(0xFFFC, 0x53#8), (0xFFFD, 0x01#8)] }
    (fun t => t.pc = 0x1235#16 ∧ t.sp = 0xFFFC#16) = true := by decide

/-- R750. -/
theorem test_reti : leads [0xD9#8] { State.reset with pc := 0x0040#16, sp := 0xFFFC#16, mem := [(0xFFFC, 0x53#8), (0xFFFD, 0x01#8)] }
    (fun t => t.pc = 0x0153#16 ∧ t.sp = 0xFFFE#16 ∧ t.ime = true) = true := by decide

/-- R760. -/
theorem test_rst_08_wraps : leads [0xCF#8] { State.reset with pc := 0x0200#16, sp := 0x0001#16 }
    (fun t => t.pc = 0x0008#16 ∧ t.sp = 0xFFFF#16 ∧ t.readByte 0x0000#16 = 0x02#8 ∧ t.readByte 0xFFFF#16 = 0x01#8) = true := by decide

/-- R760. -/
theorem test_rst_38 : leads [0xFF#8] { State.reset with pc := 0x0200#16, sp := 0xFFFE#16 }
    (fun t => t.pc = 0x0038#16 ∧ t.sp = 0xFFFC#16 ∧ t.readByte 0xFFFD#16 = 0x02#8 ∧ t.readByte 0xFFFC#16 = 0x01#8) = true := by decide

/-- R800. -/
theorem test_ld_B_E : leads [0x43#8] { State.reset with e := 0x5A#8, pc := 0x0100#16 }
    (fun t => t.b = 0x5A#8) = true := by decide

/-- R801. -/
theorem test_ld_A_atHL : leads [0x7E#8] { State.reset with h := 0xC0#8, l := 0x00#8, pc := 0x0100#16, mem := [(0xC000, 0x77#8)] }
    (fun t => t.a = 0x77#8) = true := by decide

/-- R802. -/
theorem test_ld_atHL_H : leads [0x74#8] { State.reset with h := 0xC0#8, l := 0x00#8, pc := 0x0100#16 }
    (fun t => t.readByte 0xC000#16 = 0xC0#8) = true := by decide

/-- R806. -/
theorem test_ld_atHL_d8 : leads [0x36#8, 0x99#8] { State.reset with h := 0xC0#8, l := 0x00#8, pc := 0x0100#16 }
    (fun t => t.pc = 0x0102#16 ∧ t.readByte 0xC000#16 = 0x99#8) = true := by decide

/-- R812. -/
theorem test_ld_atBC_A : leads [0x02#8] { State.reset with b := 0xC1#8, c := 0x23#8, a := 0x66#8, pc := 0x0100#16 }
    (fun t => t.readByte 0xC123#16 = 0x66#8) = true := by decide

/-- R811. -/
theorem test_ld_A_atDE : leads [0x1A#8] { State.reset with d := 0xC1#8, e := 0x24#8, pc := 0x0100#16, mem := [(0xC124, 0x67#8)] }
    (fun t => t.a = 0x67#8) = true := by decide

/-- R815. -/
theorem test_ld_A_atHLinc : leads [0x2A#8] { State.reset with h := 0xFF#8, l := 0xFF#8, pc := 0x0100#16, mem := [(0xFFFF, 0x42#8)] }
    (fun t => t.a = 0x42#8 ∧ t.h = 0x00#8 ∧ t.l = 0x00#8) = true := by decide

/-- R818. -/
theorem test_ld_atHLdec_A : leads [0x32#8] { State.reset with h := 0x00#8, l := 0x00#8, a := 0x42#8, pc := 0x0100#16 }
    (fun t => t.h = 0xFF#8 ∧ t.l = 0xFF#8 ∧ t.readByte 0x0000#16 = 0x42#8) = true := by decide

/-- R820. -/
theorem test_ld_A_atA16 : leads [0xFA#8, 0x00#8, 0xC0#8] { State.reset with pc := 0x0100#16, mem := [(0xC000, 0x5C#8)] }
    (fun t => t.a = 0x5C#8 ∧ t.pc = 0x0103#16) = true := by decide

/-- R821. -/
theorem test_ld_atA16_A : leads [0xEA#8, 0x34#8, 0xC1#8] { State.reset with a := 0xCD#8, pc := 0x0100#16 }
    (fun t => t.readByte 0xC134#16 = 0xCD#8) = true := by decide

/-- R825. -/
theorem test_ldh_A_atA8 : leads [0xF0#8, 0x44#8] { State.reset with pc := 0x0100#16, mem := [(0xFF44, 0x90#8)] }
    (fun t => t.a = 0x90#8 ∧ t.pc = 0x0102#16) = true := by decide

/-- R826. -/
theorem test_ldh_atA8_A : leads [0xE0#8, 0x80#8] { State.reset with a := 0x12#8, pc := 0x0100#16 }
    (fun t => t.readByte 0xFF80#16 = 0x12#8) = true := by decide

/-- R828. -/
theorem test_ldh_atC_A : leads [0xE2#8] { State.reset with c := 0xFF#8, a := 0x1F#8, pc := 0x0100#16 }
    (fun t => t.readByte 0xFFFF#16 = 0x1F#8) = true := by decide

/-- R900. -/
theorem test_ld_BC_d16 : leads [0x01#8, 0x34#8, 0x12#8] { State.reset with pc := 0x0100#16 }
    (fun t => t.b = 0x12#8 ∧ t.c = 0x34#8 ∧ t.pc = 0x0103#16) = true := by decide

/-- R900. -/
theorem test_ld_SP_d16 : leads [0x31#8, 0xFE#8, 0xFF#8] { State.reset with pc := 0x0100#16 }
    (fun t => t.sp = 0xFFFE#16) = true := by decide

/-- R910. -/
theorem test_ld_atA16_SP : leads [0x08#8, 0xFF#8, 0xFF#8] { State.reset with sp := 0x1234#16, pc := 0x0100#16 }
    (fun t => t.readByte 0xFFFF#16 = 0x34#8 ∧ t.readByte 0x0000#16 = 0x12#8) = true := by decide

/-- R920. -/
theorem test_ld_SP_HL : leads [0xF9#8] { State.reset with h := 0xDF#8, l := 0xFF#8, pc := 0x0100#16 }
    (fun t => t.sp = 0xDFFF#16) = true := by decide

/-- R930. -/
theorem test_ld_HL_SPe8_back : leads [0xF8#8, 0xFE#8] { State.reset with sp := 0xC000#16, pc := 0x0100#16 }
    (fun t => t.h = 0xBF#8 ∧ t.l = 0xFE#8 ∧ t.f = ⟨false, false, false, false⟩ ∧ t.sp = 0xC000#16) = true := by decide

/-- R930. -/
theorem test_ld_HL_SPe8_zero : leads [0xF8#8, 0x05#8] { State.reset with sp := 0xFFFB#16, pc := 0x0100#16 }
    (fun t => t.h = 0x00#8 ∧ t.l = 0x00#8 ∧ t.f = ⟨false, false, true, true⟩) = true := by decide

/-- R940. -/
theorem test_push_HL : leads [0xE5#8] { State.reset with h := 0xAB#8, l := 0xCD#8, sp := 0x0001#16, pc := 0x0100#16 }
    (fun t => t.sp = 0xFFFF#16 ∧ t.readByte 0x0000#16 = 0xAB#8 ∧ t.readByte 0xFFFF#16 = 0xCD#8) = true := by decide

/-- R941. -/
theorem test_push_AF : leads [0xF5#8] { State.reset with a := 0x12#8, f := ⟨true, false, true, true⟩, sp := 0xFFFE#16, pc := 0x0100#16 }
    (fun t => t.sp = 0xFFFC#16 ∧ t.readByte 0xFFFD#16 = 0x12#8 ∧ t.readByte 0xFFFC#16 = 0xB0#8) = true := by decide

/-- R951. -/
theorem test_pop_AF : leads [0xF1#8] { State.reset with sp := 0xFFFC#16, pc := 0x0100#16, mem := [(0xFFFC, 0xFF#8), (0xFFFD, 0x12#8)] }
    (fun t => t.a = 0x12#8 ∧ t.f = ⟨true, true, true, true⟩ ∧ t.sp = 0xFFFE#16) = true := by decide

/-- R950. -/
theorem test_pop_BC : leads [0xC1#8] { State.reset with sp := 0xFFFF#16, pc := 0x0100#16, mem := [(0x0000, 0x12#8), (0xFFFF, 0x34#8)] }
    (fun t => t.b = 0x12#8 ∧ t.c = 0x34#8 ∧ t.sp = 0x0001#16) = true := by decide

/-- R1010. -/
theorem test_rlc_B : leads [0xCB#8, 0x00#8] { State.reset with b := 0x85#8, f := ⟨false, false, false, true⟩, pc := 0x0100#16 }
    (fun t => t.b = 0x0B#8 ∧ t.f = ⟨false, false, false, true⟩) = true := by decide

/-- R1012. -/
theorem test_rrc_B : leads [0xCB#8, 0x08#8] { State.reset with b := 0x85#8, f := ⟨false, false, false, true⟩, pc := 0x0100#16 }
    (fun t => t.b = 0xC2#8 ∧ t.f = ⟨false, false, false, true⟩) = true := by decide

/-- R1014. -/
theorem test_rl_B : leads [0xCB#8, 0x10#8] { State.reset with b := 0x85#8, f := ⟨false, false, false, true⟩, pc := 0x0100#16 }
    (fun t => t.b = 0x0B#8 ∧ t.f = ⟨false, false, false, true⟩) = true := by decide

/-- R1014. -/
theorem test_rl_B_zero : leads [0xCB#8, 0x10#8] { State.reset with b := 0x00#8, f := ⟨false, false, false, true⟩, pc := 0x0100#16 }
    (fun t => t.b = 0x01#8 ∧ t.f = ⟨false, false, false, false⟩) = true := by decide

/-- R1016. -/
theorem test_rr_B : leads [0xCB#8, 0x18#8] { State.reset with b := 0x85#8, f := ⟨false, false, false, true⟩, pc := 0x0100#16 }
    (fun t => t.b = 0xC2#8 ∧ t.f = ⟨false, false, false, true⟩) = true := by decide

/-- R1018. -/
theorem test_sla_B : leads [0xCB#8, 0x20#8] { State.reset with b := 0x85#8, f := ⟨false, false, false, true⟩, pc := 0x0100#16 }
    (fun t => t.b = 0x0A#8 ∧ t.f = ⟨false, false, false, true⟩) = true := by decide

/-- R1020. -/
theorem test_sra_B : leads [0xCB#8, 0x28#8] { State.reset with b := 0x85#8, f := ⟨false, false, false, true⟩, pc := 0x0100#16 }
    (fun t => t.b = 0xC2#8 ∧ t.f = ⟨false, false, false, true⟩) = true := by decide

/-- R1022. -/
theorem test_swap_B : leads [0xCB#8, 0x30#8] { State.reset with b := 0x85#8, f := ⟨false, false, false, true⟩, pc := 0x0100#16 }
    (fun t => t.b = 0x58#8 ∧ t.f = ⟨false, false, false, false⟩) = true := by decide

/-- R1024. -/
theorem test_srl_B : leads [0xCB#8, 0x38#8] { State.reset with b := 0x85#8, f := ⟨false, false, false, true⟩, pc := 0x0100#16 }
    (fun t => t.b = 0x42#8 ∧ t.f = ⟨false, false, false, true⟩) = true := by decide

/-- R1011. -/
theorem test_rlc_atHL : leads [0xCB#8, 0x06#8] { State.reset with h := 0xC0#8, l := 0x00#8, pc := 0x0100#16, mem := [(0xC000, 0x81#8)] }
    (fun t => t.f = ⟨false, false, false, true⟩ ∧ t.readByte 0xC000#16 = 0x03#8) = true := by decide

/-- R1017. -/
theorem test_rr_atHL : leads [0xCB#8, 0x1E#8] { State.reset with h := 0xC0#8, l := 0x00#8, pc := 0x0100#16, mem := [(0xC000, 0x81#8)] }
    (fun t => t.f = ⟨false, false, false, true⟩ ∧ t.readByte 0xC000#16 = 0x40#8) = true := by decide

/-- R1021. -/
theorem test_sra_atHL : leads [0xCB#8, 0x2E#8] { State.reset with h := 0xC0#8, l := 0x00#8, pc := 0x0100#16, mem := [(0xC000, 0x81#8)] }
    (fun t => t.f = ⟨false, false, false, true⟩ ∧ t.readByte 0xC000#16 = 0xC0#8) = true := by decide

/-- R1023. -/
theorem test_swap_atHL : leads [0xCB#8, 0x36#8] { State.reset with h := 0xC0#8, l := 0x00#8, pc := 0x0100#16, mem := [(0xC000, 0x81#8)] }
    (fun t => t.f = ⟨false, false, false, false⟩ ∧ t.readByte 0xC000#16 = 0x18#8) = true := by decide

/-- R1030. -/
theorem test_bit_7_H_set : leads [0xCB#8, 0x7C#8] { State.reset with h := 0x80#8, f := ⟨false, false, false, true⟩, pc := 0x0100#16 }
    (fun t => t.f = ⟨false, false, true, true⟩ ∧ t.h = 0x80#8) = true := by decide

/-- R1030. -/
theorem test_bit_7_H_clear : leads [0xCB#8, 0x7C#8] { State.reset with h := 0x7F#8, pc := 0x0100#16 }
    (fun t => t.f = ⟨true, false, true, false⟩) = true := by decide

/-- R1031. -/
theorem test_bit_0_atHL : leads [0xCB#8, 0x46#8] { State.reset with h := 0xC0#8, l := 0x00#8, f := ⟨false, false, false, true⟩, pc := 0x0100#16, mem := [(0xC000, 0xFE#8)] }
    (fun t => t.f = ⟨true, false, true, true⟩ ∧ t.readByte 0xC000#16 = 0xFE#8) = true := by decide

/-- R1032. -/
theorem test_res_0_A : leads [0xCB#8, 0x87#8] { State.reset with a := 0xFF#8, pc := 0x0100#16 }
    (fun t => t.a = 0xFE#8 ∧ t.f = ⟨false, false, false, false⟩) = true := by decide

/-- R1033. -/
theorem test_res_7_atHL : leads [0xCB#8, 0xBE#8] { State.reset with h := 0xC0#8, l := 0x00#8, pc := 0x0100#16, mem := [(0xC000, 0xFF#8)] }
    (fun t => t.readByte 0xC000#16 = 0x7F#8) = true := by decide

/-- R1034. -/
theorem test_set_0_B : leads [0xCB#8, 0xC0#8] { State.reset with b := 0x00#8, pc := 0x0100#16 }
    (fun t => t.b = 0x01#8 ∧ t.f = ⟨false, false, false, false⟩) = true := by decide

/-- R1035. -/
theorem test_set_7_atHL : leads [0xCB#8, 0xFE#8] { State.reset with h := 0xC0#8, l := 0x00#8, pc := 0x0100#16 }
    (fun t => t.readByte 0xC000#16 = 0x80#8) = true := by decide

/-- R1000. -/
theorem test_rlca : leads [0x07#8] { State.reset with a := 0x85#8, f := ⟨true, false, false, false⟩, pc := 0x0100#16 }
    (fun t => t.a = 0x0B#8 ∧ t.f = ⟨false, false, false, true⟩) = true := by decide

/-- R1000. -/
theorem test_rlca_zero : leads [0x07#8] { State.reset with a := 0x00#8, f := ⟨true, false, false, false⟩, pc := 0x0100#16 }
    (fun t => t.a = 0x00#8 ∧ t.f = ⟨false, false, false, false⟩) = true := by decide

/-- R1001. -/
theorem test_rrca : leads [0x0F#8] { State.reset with a := 0x01#8, pc := 0x0100#16 }
    (fun t => t.a = 0x80#8 ∧ t.f = ⟨false, false, false, true⟩) = true := by decide

/-- R1002. -/
theorem test_rla : leads [0x17#8] { State.reset with a := 0x95#8, f := ⟨false, false, false, true⟩, pc := 0x0100#16 }
    (fun t => t.a = 0x2B#8 ∧ t.f = ⟨false, false, false, true⟩) = true := by decide

/-- R1003. -/
theorem test_rra : leads [0x1F#8] { State.reset with a := 0x81#8, f := ⟨false, false, false, true⟩, pc := 0x0100#16 }
    (fun t => t.a = 0xC0#8 ∧ t.f = ⟨false, false, false, true⟩) = true := by decide

/-- R1022, R413. -/
theorem test_swap_A_top : leads [0xCB#8, 0x37#8] { State.reset with pc := 0xFFFF#16, a := 0x12#8 }
    (fun t => t.a = 0x21#8 ∧ t.f = ⟨false, false, false, false⟩ ∧ t.pc = 0x0001#16) = true := by decide

/-- R1100. -/
theorem test_nop : leads [0x00#8] { State.reset with pc := 0x0100#16 }
    (fun t => t.pc = 0x0101#16) = true := by decide

/-- R1120. -/
theorem test_stop : leads [0x10#8, 0x00#8] { State.reset with pc := 0x0100#16 }
    (fun t => t.mode = .stopped ∧ t.pc = 0x0102#16) = true := by decide

/-- R1130. -/
theorem test_di : leads [0xF3#8] { State.reset with ime := true, pc := 0x0100#16 }
    (fun t => t.ime = false ∧ t.pc = 0x0101#16) = true := by decide

/-- R1140. -/
theorem test_ei : leads [0xFB#8] { State.reset with pc := 0x0100#16 }
    (fun t => t.ime = false ∧ t.imePending = true ∧ t.pc = 0x0101#16) = true := by decide

/-- R1140, R410. -/
theorem test_ei_ei : leads [0xFB#8] { State.reset with imePending := true, pc := 0x0100#16 }
    (fun t => t.ime = true ∧ t.imePending = false ∧ t.pc = 0x0101#16) = true := by decide

/-- R1130, R415. -/
theorem test_ei_di : leads [0xF3#8] { State.reset with imePending := true, pc := 0x0100#16 }
    (fun t => t.ime = false ∧ t.imePending = false) = true := by decide

/-- R1110: halting with IME = 1, and after EI with nothing pending. -/
theorem test_halt_halts : leads [0x76#8] { State.reset with ime := true, pc := 0x0100#16 }
    (fun t => t.mode = .halted ∧ t.pc = 0x0101#16) = true ∧
    leads [0x76#8, 0x00#8] { State.reset with pc := 0x0101#16, imePending := true }
    (fun t => t.pc = 0x0102#16 ∧ t.ime = true ∧ t.mode = .halted) = true := by decide

/-- R1110: the HALT bug, and staying at HALT after EI with an interrupt pending. -/
theorem test_halt_pending : leads [0x76#8, 0x3C#8] { State.reset with irqPending := true, pc := 0x0100#16 }
    (fun t => t.mode = .running ∧ t.haltBug = true ∧ t.pc = 0x0101#16) = true ∧
    leads [0x76#8, 0x00#8] { State.reset with pc := 0x0101#16, imePending := true, irqPending := true }
    (fun t => t.pc = 0x0101#16 ∧ t.ime = true ∧ t.mode = .running) = true := by decide

/-- R416. -/
theorem test_halt_bug_inc : leads [0x3C#8] { State.reset with pc := 0x0101#16, haltBug := true }
    (fun t => t.a = 0x01#8 ∧ t.pc = 0x0101#16 ∧ t.haltBug = false) = true := by decide

/-- R416. -/
theorem test_halt_bug_operand : leads [0x3E#8, 0x14#8, 0x00#8] { State.reset with pc := 0x0101#16, haltBug := true }
    (fun t => t.a = 0x3E#8 ∧ t.pc = 0x0102#16) = true := by decide

/-! ### Step loop, interrupts, faults and reset (95_test_vectors.md, part 2) -/

/-- R1200, S10. -/
theorem test_illegal_faults : step (at0200 [0xDD#8]) = .fault (.decodeFailure ⟨0xDD#8, 0x0200#16, false⟩) := rfl
/-- R1200, R1203: PC is unchanged and the report is stored. -/
theorem test_illegal_leaves : replies (.step false) (at0200 [0xD3#8])
    (.decodeFailure ⟨0xD3#8, 0x0200#16, false⟩)
    (fun t => t.pc = 0x0200#16 ∧ t.report = some ⟨0xD3#8, 0x0200#16, false⟩) = true := by decide
/-- R1203: mode Failed is left by neither interrupt entry nor wake. -/
theorem test_failed_sticks : replies (.interrupt 0)
      { at0200 [] with mode := .failed ⟨0xDD#8, 0x0200#16, false⟩, ime := true } .notTaken (fun _ => true) = true ∧
    replies .wake { at0200 [] with mode := .failed ⟨0xDD#8, 0x0200#16, false⟩ } .notWoken (fun _ => true) = true := by
  decide
/-- R1120: interrupt(0) does not leave Stopped and wake does. -/
theorem test_stopped : replies (.interrupt 0) { at0100 [] with mode := .stopped, ime := true } .notTaken
      (fun t => t.mode = .stopped) = true ∧
    replies .wake { at0100 [] with mode := .stopped } .woken (fun t => t.mode = .running ∧ t.pc = 0x0100#16) = true := by
  decide
/-- R1140, R1210: interrupt(2) after EI and NOP. -/
theorem test_interrupt_2 : replies (.interrupt 2) { at0100 [] with pc := 0x0102#16, sp := 0xFFFE#16, ime := true } .taken
    (fun t => t.pc = 0x0050#16 ∧ t.sp = 0xFFFC#16 ∧ t.ime = false ∧ t.readByte 0xFFFD#16 = 0x01#8 ∧
      t.readByte 0xFFFC#16 = 0x02#8) = true := by decide
/-- R1110, R1210: interrupt(1) leaves Halted. -/
theorem test_interrupt_halted : replies (.interrupt 1)
    { at0100 [] with pc := 0x0102#16, sp := 0xFFFE#16, ime := true, mode := .halted } .taken
    (fun t => t.pc = 0x0048#16 ∧ t.sp = 0xFFFC#16 ∧ t.mode = .running ∧ t.ime = false) = true := by decide
/-- R1210: the interrupt is not taken with IME = 0 and EI pending. -/
theorem test_interrupt_masked : replies (.interrupt 2) { at0100 [] with imePending := true } .notTaken
    (fun t => t = { at0100 [] with imePending := true }) = true := by decide
/-- R414: a step in Halted changes nothing. -/
theorem test_halted_step : replies (.step false) { at0100 [0x3C#8] with mode := .halted } .halted
    (fun t => t = { at0100 [0x3C#8] with mode := .halted }) = true := by decide
/-- R1300. -/
theorem test_reset : replies (.reset 0x0100#16 ResetRegs.afterBootRom)
    { at0200 [] with mode := .failed ⟨0xDD#8, 0x0200#16, false⟩, ime := true } .done
    (fun t => t.pc = 0x0100#16 ∧ t.af = 0x01B0#16 ∧ t.sp = 0xFFFE#16 ∧ t.mode = .running ∧ t.ime = false ∧
      t.report = none) = true := by decide
/-- R402: direct execute returns next pc and does not commit it. -/
theorem test_execute : replies (.execute .nop) (at0100 []) (.nextPc 0x0101#16) (fun t => t.pc = 0x0100#16) = true := by decide
/-- The calls State holds are made one a step, the first first (notes/assumptions/2.md). -/
theorem test_calls : leads [0x3C#8] { State.reset with pc := 0x0100#16, calls := [.interrupt 0, .step false] }
    (fun t => t.pc = 0x0100#16 ∧ t.a = 0x00#8 ∧ t.calls = [.step false]) = true := by decide

/-! ### The parameters of R6, and the end of a run -/

/-- The accesses a step from here writes down on the recording bus, as numbers. -/
def accessesOf (s : State) : List Nat :=
  match stepOn Params.recording s with
  | .next t => t.device
  | _ => []

/-- R220: JP Z,a16 not taken, and STOP, read all their bytes. -/
theorem test_order_operands : accessesOf (at0100 [0xCA#8, 0x34#8, 0x12#8]) = [0x0100, 0x0101, 0x0102] ∧
    accessesOf (at0100 [0x10#8]) = [0x0100, 0x0101] := by decide
/-- R220, R430: CALL a16 reads its operand, then writes the high byte and the low byte of 0x0103. -/
theorem test_order_call : accessesOf { at0100 [0xCD#8, 0x34#8, 0x12#8] with sp := 0xFFFE#16 } =
    [Access.read 0x0100#16, .read 0x0101#16, .read 0x0102#16, .write 0xFFFD#16 0x01#8, .write 0xFFFC#16 0x03#8].map
      Access.code := by decide
/-- R220, R411, R1011: RLC (HL) reads the prefix, the opcode and the byte at HL, and then writes it. -/
theorem test_order_rlc_atHL : accessesOf { at0100 [0xCB#8, 0x06#8] with h := 0x01#8 } =
    [Access.read 0x0100#16, .read 0x0101#16, .read 0x0100#16, .write 0x0100#16 0x97#8].map Access.code := by decide

/-- A bus on which a read of 0xFF04 answers how often it was read before (R202, R223); plain RAM elsewhere. -/
def countingBus : Bus :=
  { read := fun b addr =>
      if addr = 0xFF04#16 then (BitVec.ofNat 8 b.device.length, { b with device := 0 :: b.device })
      else plainRam.read b addr
    write := plainRam.write }

/-- R202: a read changes the bus state, and a later read of the address sees it. LDH A,(0x04) twice. -/
theorem test_bus_read_effect : (match stepOn { Params.default with bus := countingBus } (at0100 [0xF0#8, 0x04#8, 0xF0#8, 0x04#8]) with
    | .next t => decide (t.a = 0x00#8) && (match stepOn { Params.default with bus := countingBus } t with
      | .next u => decide (u.a = 0x01#8)
      | _ => false)
    | _ => false) = true := by decide

/-- Everything but SWAP A and NOP (R331). -/
def withoutTwo (isPrefixed : Bool) (op : Byte) : Bool := !(isPrefixed && op == 0x37#8 || !isPrefixed && op == 0x00#8)

/-- R1200, R1201: an entry left out of `ADMITTED` is a decode failure; a CB entry's report holds the byte after the prefix
and its address, under the HALT bug that of the prefix byte itself (R410). -/
theorem test_admitted : stepOn { Params.default with admitted := withoutTwo } (at0200 [0xCB#8, 0x37#8]) =
      .fault (.decodeFailure ⟨0x37#8, 0x0201#16, true⟩) ∧
    stepOn { Params.default with admitted := withoutTwo } (at0200 [0x00#8]) =
      .fault (.decodeFailure ⟨0x00#8, 0x0200#16, false⟩) ∧
    stepOn { Params.default with admitted := fun _ op => op != 0xCB#8 } { at0200 [0xCB#8, 0x37#8] with haltBug := true } =
      .fault (.decodeFailure ⟨0xCB#8, 0x0200#16, true⟩) := ⟨rfl, rfl, rfl⟩

/-- R1271: `Stopped` ends a run whatever follows; `Halted` does unless an interrupt or wake follows; a running core does
not, nor does a call that is no step. -/
theorem test_end_of_run :
    { at0100 [] with mode := .stopped, calls := [.step false, .wake] }.endsNow = true ∧
    { at0100 [] with mode := .halted, calls := [.step false, .busWrite 0#16 1#8, .step true] }.endsNow = true ∧
    { at0100 [] with mode := .halted, calls := [.step false, .step false, .interrupt 1] }.endsNow = false ∧
    { at0100 [] with mode := .halted, calls := [.wake] }.endsNow = false ∧
    (at0100 [0x00#8]).endsNow = false ∧ { at0100 [] with mode := .halted }.endsNow = true := by decide
/-- R1271: JR -2 (18 FE) leads to itself and ends nothing: the hang. -/
theorem test_hang : step (at0100 [0x18#8, 0xFE#8]) = .next (at0100 [0x18#8, 0xFE#8]) ∧
    (at0100 [0x18#8, 0xFE#8]).endsNow = false := ⟨rfl, by decide⟩

/-! ### Memory keeps its canonical form -/

/-- Writing the byte an unlisted address reads as removes the entry; the rest stays in order. -/
theorem test_memory_form : Memory.write (Memory.write [(3, 0x07#8)] 1 0x05#8) 3 0x00#8 = [(1, 0x05#8)] ∧
    Memory.wf [(1, 0x05#8), (3, 0x07#8)] ∧ ¬Memory.wf [(3, 0x07#8), (1, 0x05#8)] ∧ ¬Memory.wf [(1, 0x00#8)] ∧
    ¬Memory.wf [(65536, 0x01#8)] := by decide

/-! ### Witnesses: for each statement with hypotheses, a state and operands that meet them together -/

/-- DecodeOfEncodeIsIdentity, in each format of R302. -/
theorem test_witness_DecodeOfEncode : Assembled.wf ⟨.inc_A, []⟩ = true ∧ Assembled.wf ⟨.ldh_atA8_A, [0xFF#8]⟩ = true ∧
    Assembled.wf ⟨.call_NZ_a16, [0x00#8, 0xFF#8]⟩ = true ∧ Assembled.wf ⟨.set_7_A, []⟩ = true := by decide
/-- EncodeOfDecodeIsIdentity. -/
theorem test_witness_EncodeOfDecode : decodeBytes [0x01#8, 0x34#8, 0x12#8, 0x76#8] =
    .ok (⟨.ld_BC_d16, [0x34#8, 0x12#8]⟩, [0x76#8]) := rfl
/-- DecodeAndVariantsAreOneToOne. -/
theorem test_witness_Variants : (Form.ldR8R8 .hlInd .a).wf = true ∧ (Form.ldR8R8 .hlInd .a).instr = .ld_atHL_A ∧
    decode 0xFF#8 true = some .set_7_A := by decide
/-- SubSbcAndCpSetAccumulatorAndFlags, for each operation. -/
theorem test_witness_SubSbcCp : ∀ op ∈ [AluOp.sub, .sbc, .cp], op = .sub ∨ op = .sbc ∨ op = .cp := by decide
/-- AndXorAndOrSetAccumulatorAndFlags, for each operation. -/
theorem test_witness_AndXorOr : (AluOp.and = .and ∧ and = and) ∧ (AluOp.xor = .xor ∧ xor = xor) ∧
    (AluOp.or = .or ∧ or = or) := ⟨⟨rfl, rfl⟩, ⟨rfl, rfl⟩, ⟨rfl, rfl⟩⟩
/-- DaaMakesDecimalArithmetic, at 99 and 45. -/
theorem test_witness_Decimal : let s := { State.placeBytes [0xC6#8, 0x45#8] 0x0100#16 State.reset with
      pc := 0x0100#16, a := 0x99#8 }
    99 < 100 ∧ 45 < 100 ∧ s.a = bcdByte 99 ∧ s.readByte (s.pc + 1) = bcdByte 45 := by decide
/-- CallsAndRestarts: a call taken and one not taken. -/
theorem test_witness_Calls : jumpTestHolds (.cond .c) ⟨false, false, false, true⟩ = true ∧
    jumpTestHolds .always ⟨false, false, false, false⟩ = true ∧
    jumpTestHolds (.cond .nz) ⟨true, false, false, false⟩ = false := by decide
/-- RegisterMoves. -/
theorem test_witness_Moves : (Form.ldR8R8 .h .hlInd).wf = true ∧ (Form.ldR8R8 .hlInd .l).wf = true := by decide
/-- SystemInstructions: HALT's four cases. -/
theorem test_witness_Halt : { State.reset with ime := true }.ime = true ∧
    (let s := { State.reset with imePending := true, irqPending := true };
      s.ime = false ∧ s.imePending = true ∧ s.irqPending = true) ∧
    (let s := { State.reset with irqPending := true };
      s.ime = false ∧ s.imePending = false ∧ s.irqPending = true) ∧
    (let s := { State.reset with imePending := true }; s.ime = false ∧ s.irqPending = false) := by decide
/-- NonTransfersAdvanceByTheirLength: a plain instruction, and HALT where it does not stay. -/
theorem test_witness_NonTransfers : (transfers Instr.nop.form = false ∧ (Instr.nop = .halt → State.reset.haltStays = false)) ∧
    (transfers Instr.halt.form = false ∧ (Instr.halt = .halt → State.reset.haltStays = false)) := by decide
/-- MemoryChangesOnlyWhereStored: an instruction that stores nothing, and a call not taken. -/
theorem test_witness_NoStore : storeAddrs Instr.cp_A_B.form State.reset = [] ∧
    storeAddrs Instr.call_Z_a16.form State.reset = [] ∧ storeAddrs Instr.call_NZ_a16.form State.reset ≠ [] := by decide
/-- RegistersChangeOnlyWhereWritten. -/
theorem test_witness_Registers : R8.b ≠ .hlInd ∧ mayWrite Instr.add_A_C.form .b = false ∧
    mayWriteSp Instr.add_A_C.form = false := by decide
/-- OnlyHaltReadsTheInterruptLine and OnlyDaaAndPushAFReadNAndH, with a flag not kept. -/
theorem test_witness_Instr : Instr.inc_A ≠ .halt ∧ Instr.inc_A ≠ .daa ∧ Instr.inc_A ≠ .push_AF ∧
    Instr.inc_A.row.n ≠ .keep ∧ Instr.inc_A.row.h ≠ .keep := by decide
/-- StepRunsTheDecodedInstruction: a plain instruction. -/
theorem test_witness_Step_plain : let s := at0100 [0x00#8]
    s.mode = .running ∧ s.calls = [] ∧ (s.readByte s.pc ≠ 0xCB#8 → decode (s.readByte s.pc) false = some .nop) ∧
    (s.readByte s.pc = 0xCB#8 → decode (s.readByte (s.pc + 1)) true = some .nop) ∧
    exec .nop { s with pc := s.pc, haltBug := false } = .next { s with pc := 0x0101#16 } :=
  ⟨by decide, by decide, by decide, by decide, rfl⟩
/-- StepRunsTheDecodedInstruction: a CB instruction under the HALT bug, whose second byte is the prefix byte itself. -/
theorem test_witness_Step_cb : let s := { at0100 [0xCB#8] with haltBug := true }
    s.mode = .running ∧ s.calls = [] ∧ (s.readByte s.pc ≠ 0xCB#8 → decode (s.readByte s.pc) false = some .set_1_E) ∧
    (s.readByte s.pc = 0xCB#8 → decode (s.readByte (s.pc - 1 + 1)) true = some .set_1_E) ∧
    exec .set_1_E { s with pc := s.pc - 1, haltBug := false } =
      .next { s with e := 0x02#8, pc := 0x0101#16, haltBug := false } :=
  ⟨by decide, by decide, by decide, by decide, rfl⟩
/-- DecodeFailureIsExactAndPrecise: the least and the greatest illegal byte, and the prefix byte. -/
theorem test_witness_DecodeFailure :
    let illegal :=
      [0xD3#8, 0xDB#8, 0xDD#8, 0xE3#8, 0xE4#8, 0xEB#8, 0xEC#8, 0xED#8, 0xF4#8, 0xFC#8, 0xFD#8]
    (at0200 [0xD3#8]).mode = .running ∧ (at0200 [0xD3#8]).calls = [] ∧ (at0200 [0xD3#8]).readByte 0x0200#16 ∈ illegal ∧
    (at0200 [0xFD#8]).readByte 0x0200#16 ∈ illegal ∧ (at0200 [0xCB#8]).readByte 0x0200#16 ∉ illegal := by decide
/-- DecodeFailureIsExactAndPrecise over a smaller `ADMITTED`: an entry left out and one kept, in each table, and an
undefined one. -/
theorem test_witness_Admitted : let s := at0200 [0xCB#8, 0x37#8]; let u := at0200 [0x00#8]
    (s.mode = .running ∧ s.calls = [] ∧ s.haltBug = false ∧ s.readByte s.pc = 0xCB#8 ∧
      withoutTwo true (s.readByte (s.pc + 1)) = false ∧ withoutTwo true 0x36#8 = true) ∧
    (u.mode = .running ∧ u.calls = [] ∧ u.readByte u.pc ≠ 0xCB#8 ∧ withoutTwo false (u.readByte u.pc) = false) ∧
    decode 0xDD#8 false = none ∧ decode 0x01#8 false ≠ none ∧ withoutTwo false 0x01#8 = true := by decide
/-- ModesThatDoNothing. -/
theorem test_witness_Modes : { State.reset with mode := .halted, ime := true }.mode = .halted ∧
    { State.reset with mode := .halted, ime := true }.ime = true ∧ { State.reset with mode := .stopped }.mode = .stopped ∧
    { State.reset with mode := .failed ⟨0xDD#8, 0x0200#16, false⟩ }.mode = .failed ⟨0xDD#8, 0x0200#16, false⟩ ∧
    State.reset.calls = [] ∧ State.reset.mode ≠ .halted ∧ State.reset.mode ≠ .stopped := by decide
/-- ModesThatDoNothing: calls that are not reset, the direct executes of HALT and STOP among them, made in mode Failed. -/
theorem test_witness_Modes_call : let r : Report := ⟨0xDD#8, 0x0200#16, false⟩
    { State.reset with mode := .failed r }.mode = .failed r ∧
    (∀ pc regs, HostCall.wake ≠ .reset pc regs) ∧ (∀ pc regs, HostCall.execute .halt ≠ .reset pc regs) ∧
    (∀ pc regs, HostCall.execute .stop ≠ .reset pc regs) ∧
    replies (.execute .halt) { State.reset with mode := .failed r } (.nextPc 0x0001#16) (fun t => t.mode = .failed r) = true ∧
    replies (.execute .stop) { State.reset with mode := .failed r } (.nextPc 0x0002#16) (fun t => t.mode = .failed r) = true :=
  ⟨rfl, nofun, nofun, nofun, by decide, by decide⟩
/-- ModesThatDoNothing: the end of a run, with no call waiting and with a step waiting. -/
theorem test_witness_Modes_end : State.reset.calls = [] ∧
    { State.reset with calls := [.step true, .wake] }.calls = .step true :: [.wake] := ⟨rfl, rfl⟩
/-- EiTakesEffectAfterTheNextInstruction, with a plain and a CB instruction next. -/
theorem test_witness_Ei : let s := at0100 [0xFB#8, 0xF3#8]
    let u := at0100 [0xFB#8, 0xCB#8, 0xC0#8]
    (s.mode = .running ∧ s.calls = [] ∧ s.haltBug = false ∧ s.imePending = false ∧ s.readByte s.pc = 0xFB#8) ∧
    u.readByte u.pc = 0xFB#8 ∧
    decode { s with pc := 0x0101#16 }.fetch.opcode { s with pc := 0x0101#16 }.fetch.isPrefixed = some .di ∧
    decode { u with pc := 0x0101#16 }.fetch.opcode { u with pc := 0x0101#16 }.fetch.isPrefixed = some .set_0_B := by
  decide
/-- HaltBugRunsAOneByteInstructionTwice. -/
theorem test_witness_HaltBug : let s := { at0100 [0x3C#8] with haltBug := true }
    s.mode = .running ∧ s.calls = [] ∧ s.haltBug = true ∧ s.readByte s.pc ≠ 0xCB#8 ∧
    decode (s.readByte s.pc) false = some .inc_A ∧ Instr.inc_A.length = 1 ∧ transfers Instr.inc_A.form = false ∧
    Instr.inc_A ≠ .halt ∧ s.pc ∉ storeAddrs Instr.inc_A.form { s with pc := s.pc - 1 } := by decide
/-- HaltBugRunsAOneByteInstructionTwice: an instruction that stores over its own byte, LD (HL),A at HL. -/
theorem test_witness_HaltBug_stores : let s := { at0100 [0x77#8] with haltBug := true, h := 0x01#8 }
    s.readByte s.pc ≠ 0xCB#8 ∧ decode (s.readByte s.pc) false = some .ld_atHL_A ∧ Instr.ld_atHL_A.length = 1 ∧
    transfers Instr.ld_atHL_A.form = false ∧ s.pc ∈ storeAddrs Instr.ld_atHL_A.form { s with pc := s.pc - 1 } := by decide
/-- InterruptEntry: not taken by IME and by mode, taken from Running and from Halted. -/
theorem test_witness_Interrupt : State.reset.ime = false ∧
    (let s := { State.reset with ime := true, mode := .stopped }; s.mode ≠ .running ∧ s.mode ≠ .halted) ∧
    (let s := { State.reset with ime := true }; s.ime = true ∧ (s.mode = .running ∨ s.mode = .halted)) ∧
    (let s := { State.reset with ime := true, mode := .halted }; s.ime = true ∧ (s.mode = .running ∨ s.mode = .halted)) := by
  decide
/-- RetiUndoesInterruptEntry: a handler that changes A. -/
theorem test_witness_Reti : let s := { at0100 [] with sp := 0xFFFE#16, ime := true }
    let t := (s.interrupt 0).1
    let u := { t with a := 0x55#8, pc := 0x0041#16 }
    s.interrupt 0 = (t, .taken) ∧ u.sp = t.sp ∧ u.readByte t.sp = t.readByte t.sp ∧
    u.readByte (t.sp + 1) = t.readByte (t.sp + 1) := by decide
/-- DirectExecuteDoesNotCommit: in mode Failed, and in another. -/
theorem test_witness_Execute : { State.reset with mode := .failed ⟨0xDD#8, 0x0200#16, false⟩ }.mode =
    .failed ⟨0xDD#8, 0x0200#16, false⟩ ∧ ∀ r, State.reset.mode ≠ .failed r := ⟨rfl, nofun⟩
/-- ReferenceLoopTurn: the lowest source is the Timer's, k = 2, entered, waking, or neither. -/
theorem test_witness_Reference : (0b10100#5).getLsbD 2 = true ∧ (∀ j : Fin 5, j < 2 → (0b10100#5).getLsbD j.val = false) ∧
    (let s := { State.reset with ime := true }; s.ime = true ∧ (s.mode = .running ∨ s.mode = .halted)) ∧
    (let s := { State.reset with mode := .halted };
      ¬(s.ime = true ∧ (s.mode = .running ∨ s.mode = .halted)) ∧ s.mode = .halted) ∧
    ¬(State.reset.ime = true ∧ (State.reset.mode = .running ∨ State.reset.mode = .halted)) ∧
    State.reset.mode ≠ .halted := by decide
/-- EmbedderCallsAreTheirOperations: a call waiting, none, and a reply that is no decode failure. -/
theorem test_witness_Calls_waiting : { State.reset with calls := [.interrupt 3, .wake] }.calls = .interrupt 3 :: [.wake] ∧
    State.reset.calls = [] ∧ ∀ rep, Reply.taken ≠ .decodeFailure rep := ⟨rfl, rfl, nofun⟩
/-- BusAccessesInOrder: a step that runs an instruction, one that fails to decode, and an interrupt taken. -/
theorem test_witness_Accesses : let s := at0100 [0xCD#8, 0x34#8, 0x12#8]
    (s.mode = .running ∧ s.calls = [] ∧ decode s.fetch.opcode s.fetch.isPrefixed = some .call_a16) ∧
    ((at0200 [0xDD#8]).mode = .running ∧ (at0200 [0xDD#8]).calls = [] ∧
      step (at0200 [0xDD#8]) = .fault (.decodeFailure ⟨0xDD#8, 0x0200#16, false⟩)) ∧
    { State.reset with ime := true }.takesInterrupt = true := ⟨by decide, ⟨by decide, by decide, rfl⟩, by decide⟩
/-- MemoryFormIsCanonical: a memory in the form, reached by two orders of the same writes. -/
theorem test_witness_Memory : Memory.wf [(1, 0x05#8), (3, 0x07#8)] ∧
    Memory.write (Memory.write [] 1 0x05#8) 3 0x07#8 = Memory.write (Memory.write [] 3 0x07#8) 1 0x05#8 := by decide
/-- EveryStepKeepsTheInvariant and EveryRunCallKeepsTheInvariant: a step that enters an interrupt. -/
theorem test_witness_Invariant : let s := { at0100 [0x3C#8] with sp := 0xFFFE#16, ime := true, calls := [.interrupt 0] }
    s.inv ∧ step s = .next { (({ s with calls := [] }).interrupt 0).1 with calls := [] } ∧
    (HostCall.interrupt 0).isRunCall = true ∧ (HostCall.busChange ⟨[(1, 0x05#8)], [7]⟩).isRunCall = true :=
  ⟨by decide, rfl, by decide, by decide⟩

end Sys2Proof.Tests
end

section
/-! SUPPORT. The order of bus accesses (R16, R220, R240): what every instruction, the fetch stage and interrupt entry write
down on the recording bus, and O60 from it. The idea is that writing down commutes with everything else: from a state with
the accesses `k` written down, an instruction does what it does over plain RAM and writes its own after `k`. -/

namespace Sys2Proof.Machine

/-! ### What is written down is seen by no rule -/

@[simp] theorem State.setHaltBug_note (s : State) (k : List Access) (v : Bool) :
    (s.note k).setHaltBug v = (s.setHaltBug v).note k := rfl
@[simp] theorem State.toExecute_note (s : State) (k : List Access) : (s.note k).toExecute = s.toExecute.note k := rfl
@[simp] theorem State.failDecode_note (s : State) (k : List Access) (r : Report) :
    (s.note k).failDecode r = (s.failDecode r).note k := rfl
@[simp] theorem State.pop16_note_snd (s : State) (k : List Access) : (s.note k).pop16.2 = s.pop16.2.note k := rfl
@[simp] theorem finishEiDelay_note (pending : Bool) (i : Instr) (s : State) (k : List Access) :
    finishEiDelay pending i (s.note k) = (finishEiDelay pending i s).note k := by
  unfold finishEiDelay; split <;> rfl

@[simp] theorem operandRead_note (r : R8) (s : State) (k : List Access) : operandRead r (s.note k) = operandRead r s := rfl
@[simp] theorem popReads_note (s : State) (k : List Access) : popReads (s.note k) = popReads s := rfl
@[simp] theorem operandWrite_setF (r : R8) (v : Byte) (s : State) (f : Flags) :
    operandWrite r v (s.setF f) = operandWrite r v s := rfl

/-! ### The operand bytes of a variant (R220, R302) -/

/-- How many operand bytes the instructions of a variant have: none, a byte, or a word. -/
def operandBytes : Form → Nat
  | .ldAA16 | .ldA16A | .ldR16D16 _ | .ldA16SP | .jp _ | .call _ => 2
  | .stop | .ldR8D8 _ | .ldhAA8 | .ldhA8A | .ldHLSPe8 | .aluD8 _ | .addSPe8 | .jr _ => 1
  | _ => 0

/-- The reads of that many operand bytes. -/
def byteReads (n : Nat) (s : State) : List Access := (List.range n).map fun k => .read (s.pc + 1 + BitVec.ofNat 16 k)

@[simp] theorem byteReads_zero (s : State) : byteReads 0 s = [] := rfl
@[simp] theorem byteReads_one (s : State) : byteReads 1 s = [.read (s.pc + 1)] := by simp [byteReads]
@[simp] theorem byteReads_two (s : State) : byteReads 2 s = [.read (s.pc + 1), .read (s.pc + 1 + 1)] := by
  simp [byteReads, List.range_succ]

/-- The table's lengths (R334) are those of the variants: the opcode and a 0xCB before it are no operands. -/
theorem operandBytes_form (i : Instr) : operandBytes i.form = if i.row.prefixed then 0 else i.length - 1 := by
  cases i <;> rfl

/-- An instruction's operand reads are its variant's. -/
theorem operandReads_eq (i : Instr) (s : State) : operandReads i s = byteReads (operandBytes i.form) s := by
  rw [operandBytes_form, operandReads]; split <;> rfl

/-! ### What each variant does over the recording bus -/

/-- R220, by variant: over the recording bus an instruction does what it does over plain RAM, and writes down its operand
reads and then its data accesses after what was there. -/
theorem execOn_recording_form {f : Form} (h : f.wf = true) (s : State) (k : List Access) :
    execOn Params.recording f.instr (s.note k) =
      .next ((formEffect f s).note (k ++ byteReads (operandBytes f) s ++ dataAccesses f s)) := by
  unfold formEffect dataAccesses operandBytes
  cases f with
  -- no access
  | nop | di | ei | ldSPHL | daa | cpl | scf | ccf | rlca | rrca | rla | rra | jpHL =>
    simp only [byteReads_zero, List.append_nil]; rfl
  | addHLR16 rr => simp [exec_form_addHLR16, addHLR16]
  | incR16 rr => simp [exec_form_incR16, incR16]
  | decR16 rr => simp [exec_form_decR16, decR16]
  | halt =>
    cases hi : s.ime <;> cases hp : s.imePending <;> cases hq : s.irqPending <;>
      simp [exec_form_halt, exec_halt, State.haltStays, State.haltBugs, hi, hp, hq]
  -- operand bytes alone
  | stop => simp [exec_form_stop, exec_stop, State.readImm8_recording]
  | aluD8 op => simp [exec_form_aluD8, aluD8, aluOnA, State.readImm8_recording]
  | addSPe8 => simp [exec_form_addSPe8, exec_add_SP_e8, State.readImm8_recording]
  | ldHLSPe8 => simp [exec_form_ldHLSPe8, exec_ld_HL_SPe8, State.readImm8_recording]
  | ldR16D16 rr => simp [exec_form_ldR16D16, ldR16D16, State.readImm16_recording]
  | jp t => cases ht : jumpTestHolds t s.f <;> simp [exec_form_jp, jumpAbs, State.readImm16_recording, ht]
  | jr t => cases ht : jumpTestHolds t s.f <;> simp [exec_form_jr, jumpRel, State.readImm8_recording, ht]
  -- an 8-bit operand: an access for (HL) alone
  | ldR8R8 dst src => simp [exec_form_ldR8R8 dst src h, ldR8R8, State.read8_recording, State.setR8_recording]
  | ldR8D8 dst => simp [exec_form_ldR8D8, ldR8D8, State.readImm8_recording, State.setR8_recording]
  | aluR8 op src => simp [exec_form_aluR8, aluR8, aluOnA, State.read8_recording]
  | incR8 r => simp [exec_form_incR8, incR8, State.read8_recording, State.setR8_recording, incByte]
  | decR8 r => simp [exec_form_decR8, decR8, State.read8_recording, State.setR8_recording, decByte]
  | rot op r => simp [exec_form_rot, rotateR8, State.read8_recording, State.setR8_recording]
  | testBit b r => simp [exec_form_testBit, testBitR8, State.read8_recording]
  | resetBit b r => simp [exec_form_resetBit, resetBitR8, State.read8_recording, State.setR8_recording]
  | setBit b r => simp [exec_form_setBit, setBitR8, State.read8_recording, State.setR8_recording]
  -- A or SP from or to memory
  | ldAM m => simp [exec_form_ldAM, ldAM, State.memRead_recording]
  | ldMA m => simp [exec_form_ldMA, ldMA, State.writeByte_recording]
  | ldAA16 => simp [exec_form_ldAA16, exec_ld_A_atA16, loadA, State.readImm16_recording, State.memRead_recording]
  | ldA16A => simp [exec_form_ldA16A, exec_ld_atA16_A, storeA, State.readImm16_recording, State.writeByte_recording]
  | ldhAA8 => simp [exec_form_ldhAA8, exec_ldh_A_atA8, loadA, State.readImm8_recording, State.memRead_recording]
  | ldhA8A => simp [exec_form_ldhA8A, exec_ldh_atA8_A, storeA, State.readImm8_recording, State.writeByte_recording]
  | ldhAC => simp [exec_form_ldhAC, loadA, State.memRead_recording]
  | ldhCA => simp [exec_form_ldhCA, storeA, State.writeByte_recording]
  | ldA16SP => simp [exec_form_ldA16SP, exec_ld_atA16_SP, State.readImm16_recording, State.writeWord_recording]
  -- the stack
  | push rr => simp [exec_form_push, pushPair, State.push16_recording]
  | pop rr => simp [exec_form_pop, popPair, State.pop16_recording]
  | call t =>
    cases ht : jumpTestHolds t s.f <;>
      simp [exec_form_call, callAbs, State.readImm16_recording, State.push16_recording, ht]
  | rst n => simp [exec_form_rst, restart, State.push16_recording]
  | retCC cc =>
    cases ht : jumpTestHolds (.cond cc) s.f <;> simp [exec_form_retCC, returnIf, State.pop16_recording, ht]
  | ret => simp [exec_form_ret, returnIf, State.pop16_recording, jumpTestHolds]
  | reti => simp [exec_form_reti, State.returnFromInterrupt, State.pop16_recording]

/-- The same for every instruction. -/
theorem execOn_recording (i : Instr) (s : State) (k : List Access) :
    execOn Params.recording i (s.note k) =
      .next ((formEffect i.form s).note (k ++ operandReads i s ++ dataAccesses i.form s)) := by
  rw [operandReads_eq]
  simpa using execOn_recording_form i.wf_form s k

/-! ### Over plain RAM the device state stays -/

/-- No instruction touches the rest of the bus state over plain RAM (R203). -/
@[simp] theorem formEffect_device (f : Form) (s : State) : (formEffect f s).device = s.device := by
  cases f with
  | halt | jp t | jr t | call t | retCC cc => simp only [formEffect]; split_ifs <;> rfl
  | ldA16SP => simp [formEffect, State.writeWord_eq]
  | _ => simp [formEffect]

/-- What is written down, in terms of the device state of before. -/
theorem State.note_of_device_eq {s t : State} (h : t.device = s.device) (k : List Access) :
    t.note k = { t with device := s.device ++ k.map Access.code } := by rw [State.note, h]

/-! ### The step (R411, R418) -/

/-- The fetch stage reads what it reads over plain RAM and writes its reads down. -/
theorem State.fetchOpcode_recording (s : State) :
    s.fetchOpcode Params.recording = (s.fetch, s.note (fetchReads s)) := by
  rw [State.fetch_eq, fetchReads, State.fetchOpcode, State.memRead_recording]
  dsimp only
  split_ifs
  · simp [State.memRead_recording]
  · rfl

/-- The state a step leaves that executes i over plain RAM. -/
def State.afterStep (i : Instr) (s : State) : State := finishEiDelay s.imePending i (formEffect i.form s.toExecute)

theorem State.afterStep_device (i : Instr) (s : State) : (s.afterStep i).device = s.device := by
  simp [State.afterStep]

/-- A step of a running core whose opcode decodes, over plain RAM. -/
theorem step_running_decoded {s : State} {i : Instr} (hm : s.mode = .running) (hc : s.calls = [])
    (hd : decode s.fetch.opcode s.fetch.isPrefixed = some i) : step s = .next (s.afterStep i) := by
  have hrun : stepRunning s = executeDecoded i s := by
    obtain ⟨j, hj, he⟩ | ⟨hn, -⟩ := stepRunning_cases s
    · obtain rfl : i = j := Option.some.inj (hd.symm.trans hj)
      exact he
    · rw [hd] at hn; cases hn
  rw [step_no_calls hc, stepMode_running _ hm, hrun, executeDecoded_next (exec_effect i s.toExecute)]
  rfl

/-- The same over the recording bus: the fetch's reads, then the instruction's accesses. -/
theorem stepOn_recording_decoded {s : State} {i : Instr} (hm : s.mode = .running) (hc : s.calls = [])
    (hd : decode s.fetch.opcode s.fetch.isPrefixed = some i) :
    stepOn Params.recording s = .next ((s.afterStep i).note
      (fetchReads s ++ operandReads i s.toExecute ++ dataAccesses i.form s.toExecute)) := by
  have hd' : decodeAdmitting Params.recording.admitted s.fetch.opcode s.fetch.isPrefixed = some i := hd
  rw [stepOn_no_calls _ hc, stepMode_running _ hm, stepRunning, State.fetchOpcode_recording]
  simp only [hd', executeDecoded, State.toExecute_note, execOn_recording, finishEiDelay_note]
  rfl

/-- A step of a running core that faults over plain RAM: the opcode did not decode, and the report says so. -/
theorem undecoded_of_step_fault {s : State} {report : Report} (hm : s.mode = .running) (hc : s.calls = [])
    (hf : step s = .fault (.decodeFailure report)) :
    decode s.fetch.opcode s.fetch.isPrefixed = none ∧
      report = ⟨s.fetch.opcode, s.fetch.address, s.fetch.isPrefixed⟩ := by
  obtain ⟨i, hd, -⟩ | ⟨hd, he⟩ := stepRunning_cases s
  · rw [step_running_decoded hm hc hd] at hf; cases hf
  · rw [step_no_calls hc, stepMode_running _ hm, he] at hf
    cases hf
    exact ⟨hd, rfl⟩

/-- A decode failure over the recording bus: the fetch's reads alone (R418). -/
theorem stepRunning_recording_undecoded {s : State} (hd : decode s.fetch.opcode s.fetch.isPrefixed = none) :
    let r : Report := ⟨s.fetch.opcode, s.fetch.address, s.fetch.isPrefixed⟩
    stepRunning s Params.recording = .next ((s.failDecode r).note (fetchReads s), .decodeFailure r) := by
  have hd' : decodeAdmitting Params.recording.admitted s.fetch.opcode s.fetch.isPrefixed = none := hd
  simp only [stepRunning, State.fetchOpcode_recording, hd', State.failDecode_note]

/-! ### Interrupt entry (R430, R1210) -/

/-- Interrupt entry over the recording bus writes down its push of PC. -/
theorem State.interrupt_recording {s : State} (k : Fin 5) (h : s.takesInterrupt = true) :
    s.interrupt k Params.recording = ((s.interrupt k).1.note (pushWrites s.pc s), .taken) := by
  have hpush : s.push16 s.pc Params.recording = (s.push16 s.pc).note (pushWrites s.pc s) := by
    simpa using State.push16_recording s [] s.pc
  simp only [State.interrupt, h, if_true, hpush]
  rfl

/-- Settles O60: each clause is its lemma above, from a state with nothing written down yet. -/
theorem busAccessesInOrder : Obligations.BusAccessesInOrder := by
  refine ⟨fun _ _ => Access.code_inj, fun i s => ⟨formEffect i.form s, exec_effect i s, ?_⟩,
    fun s i hm hc hd => ⟨s.afterStep i, step_running_decoded hm hc hd, ?_⟩, fun s report hm hc hf => ?_,
    fun s k h => ?_⟩
  · rw [← State.note_of_device_eq (formEffect_device i.form s)]
    simpa using execOn_recording i s []
  · rw [← State.note_of_device_eq (s.afterStep_device i)]
    exact stepOn_recording_decoded hm hc hd
  · obtain ⟨hd, rfl⟩ := undecoded_of_step_fault hm hc hf
    exact (stepMode_running _ hm).trans (stepRunning_recording_undecoded hd)
  · have hdev : (s.interrupt k).1.device = s.device := by rw [State.interrupt_taken k h]; rfl
    rw [State.interrupt_recording k h, State.note_of_device_eq hdev]

end Sys2Proof.Machine
end

section
/-! SUPPORT. The invariant (notes/assumptions/17.md): what an instruction does to memory and to the control items, that each
run call keeps the invariant, and O57 and O59 from it. -/

namespace Sys2Proof

/-- An instruction is the row of its variant (R341). -/
theorem Instr.eq_of_form {i : Instr} {f : Form} (h : i.form = f) : i = f.instr := h ▸ i.instr_form.symm

end Sys2Proof

namespace Sys2Proof.Machine

/-! ### What an instruction does to memory's form and the control items -/

/-- Every instruction keeps memory in its canonical form: its stores are bus writes. -/
theorem formEffect_wf (f : Form) {s : State} (h : Memory.wf s.mem) : Memory.wf (formEffect f s).mem := by
  cases f with
  | ldR8R8 r | ldR8D8 r | rot _ r | resetBit _ r | setBit _ r => exact s.wf_setR8 r _ h
  | incR8 r | decR8 r => exact State.wf_setR8 (s.setF _) r _ h
  | ldMA m => simpa [formEffect] using s.wf_writeByte (s.memAddr m) s.a h
  | ldA16A | ldhA8A | ldhCA => exact s.wf_writeByte _ _ h
  | ldA16SP => exact s.wf_writeWord _ _ h
  | push rr | rst n => exact s.wf_push16 _ h
  | call t =>
    simp only [formEffect]
    split
    · exact s.wf_push16 _ h
    · exact h
  | halt | jp t | jr t | retCC cc => simp only [formEffect]; split_ifs <;> exact h
  | _ => simpa [formEffect] using h

/-- No instruction touches the embedder's calls. -/
@[simp] theorem formEffect_calls (f : Form) (s : State) : (formEffect f s).calls = s.calls := by
  cases f with
  | halt | jp t | jr t | call t | retCC cc => simp only [formEffect]; split_ifs <;> rfl
  | ldA16SP => simp [formEffect, State.writeWord_eq]
  | _ => simp [formEffect]

/-- The mode changes by STOP, and by a HALT that halts (R1110, R1120). -/
theorem formEffect_mode (f : Form) (s : State) : (formEffect f s).mode =
    if f = .stop then .stopped
    else if f = .halt ∧ s.haltStays = false ∧ s.haltBugs = false then .halted else s.mode := by
  cases f with
  | halt => cases hs : s.haltStays <;> cases hb : s.haltBugs <;> simp [formEffect, hs, hb]
  | jp t | jr t | call t | retCC cc => simp only [formEffect]; split_ifs <;> simp_all
  | ldA16SP => simp [formEffect, State.writeWord_eq]
  | _ => simp [formEffect]

/-- The HALT bug is set by HALT alone, where its condition holds (R151, R1110). -/
theorem formEffect_haltBug (f : Form) (s : State) : (formEffect f s).haltBug =
    if f = .halt ∧ s.haltBugs = true then true else s.haltBug := by
  cases f with
  | halt =>
    have hne : s.haltBugs = true → s.haltStays = false := by
      cases hp : s.imePending <;> simp [State.haltBugs, State.haltStays, hp]
    cases hs : s.haltStays <;> cases hb : s.haltBugs <;> simp_all [formEffect]
  | jp t | jr t | call t | retCC cc => simp only [formEffect]; split_ifs <;> simp_all
  | ldA16SP => simp [formEffect, State.writeWord_eq]
  | _ => simp [formEffect]

/-- IME is written by RETI and DI alone: EI's setting of it comes at the end of the next step (R140, R750, R1130). -/
theorem formEffect_ime (f : Form) (s : State) : (formEffect f s).ime =
    if f = .reti then true else if f = .di then false else s.ime := by
  cases f with
  | halt | jp t | jr t | call t | retCC cc => simp only [formEffect]; split_ifs <;> simp_all
  | ldA16SP => simp [formEffect, State.writeWord_eq]
  | _ => simp [formEffect]

/-- ime_pending is written by EI and DI alone (R141, R1130, R1140). -/
theorem formEffect_imePending (f : Form) (s : State) : (formEffect f s).imePending =
    if f = .ei then true else if f = .di then false else s.imePending := by
  cases f with
  | halt | jp t | jr t | call t | retCC cc => simp only [formEffect]; split_ifs <;> simp_all
  | ldA16SP => simp [formEffect, State.writeWord_eq]
  | _ => simp [formEffect]

/-! ### The end of a step (R141, R415) -/

/-- A step that executes i ends in Halted or Stopped only where i is STOP, or a HALT that halts (R1110, R1120). -/
theorem State.afterStep_idle {i : Instr} {s : State} (hm : s.mode = .running)
    (h : (s.afterStep i).mode = .halted ∨ (s.afterStep i).mode = .stopped) :
    i = .stop ∨ i = .halt ∧ s.haltBugs = false := by
  have hb : s.toExecute.haltBugs = s.haltBugs := rfl
  simp only [State.afterStep, finishEiDelay_mode, formEffect_mode, State.toExecute_mode, hm, hb] at h
  split_ifs at h with hstop hhalt
  · exact .inl (Instr.eq_of_form hstop)
  · exact .inr ⟨Instr.eq_of_form hhalt.1, hhalt.2.2⟩
  · simp at h

/-- After a step that executes i the HALT bug waits only where i is HALT and its condition held (R151). -/
theorem State.afterStep_haltBug (i : Instr) (s : State) :
    (s.afterStep i).haltBug = true ↔ i = .halt ∧ s.haltBugs = true := by
  have hf : i.form = .halt ↔ i = .halt := ⟨Instr.eq_of_form, fun h => by subst h; rfl⟩
  have hb : s.toExecute.haltBugs = s.haltBugs := rfl
  simp [State.afterStep, formEffect_haltBug, hf, hb]

/-- EI's delay ends with the step (R415): an instruction that keeps ime_pending, and is not DI, leaves none after it. -/
theorem State.afterStep_imePending_of_keeps {i : Instr} {s : State} (hdi : i ≠ .di)
    (h : (formEffect i.form s.toExecute).imePending = s.imePending) : (s.afterStep i).imePending = false := by
  cases hp : s.imePending <;> simp [State.afterStep, finishEiDelay, hp, hdi, h]

/-- A step that executes an instruction leaves the latches as they may be. -/
theorem State.latchesOk_afterStep (i : Instr) {s : State} (hm : s.mode = .running) : (s.afterStep i).latchesOk := by
  refine ⟨fun hidle => ?_, fun hbug => ?_⟩
  · rw [← Bool.not_eq_true, ← Bool.not_eq_true, State.afterStep_haltBug]
    obtain rfl | ⟨rfl, hb⟩ := State.afterStep_idle hm hidle
    · simp [State.afterStep_imePending_of_keeps (s := s) (i := .stop) (by decide) rfl]
    · simp [State.afterStep_imePending_of_keeps (s := s) (i := .halt) (by decide) (formEffect_imePending _ _), hb]
  · obtain ⟨rfl, hb⟩ := (State.afterStep_haltBug i s).mp hbug
    obtain ⟨⟨hi, hp⟩, -⟩ : (s.ime = false ∧ s.imePending = false) ∧ s.irqPending = true := by
      simpa [State.haltBugs] using hb
    have hform : Instr.halt.form = .halt := rfl
    simp [State.afterStep, hform, formEffect_ime, formEffect_imePending, hi, hp]

/-! ### Each run call keeps the invariant -/

/-- A step in mode Running: an instruction, or a decode failure. -/
theorem stepRunning_keeps_inv {s t : State} {reply : Reply} (hm : s.mode = .running) (h : s.inv)
    (hs : stepRunning s = .next (t, reply)) : t.inv := by
  obtain ⟨hmem, ⟨-, hbug⟩, hcalls⟩ := h
  obtain ⟨i, -, he⟩ | ⟨-, he⟩ := stepRunning_cases s
  · rw [he, executeDecoded_next (exec_effect i s.toExecute)] at hs
    cases hs
    refine ⟨?_, State.latchesOk_afterStep i hm, ?_⟩
    · rw [finishEiDelay_mem]; exact formEffect_wf i.form hmem
    · simpa using hcalls
  · rw [he] at hs
    cases hs
    exact ⟨hmem, ⟨by simp, hbug⟩, hcalls⟩

/-- `step` in any mode (R410, R414). -/
theorem stepMode_keeps_inv {s t : State} {reply : Reply} (h : s.inv) (hs : stepMode s = .next (t, reply)) : t.inv := by
  cases hm : s.mode with
  | running => exact stepRunning_keeps_inv hm h (stepMode_running _ hm ▸ hs)
  | halted => rw [stepMode_halted _ hm] at hs; cases hs; exact h
  | stopped => rw [stepMode_stopped _ hm] at hs; cases hs; exact h
  | failed r => rw [stepMode_failed _ hm] at hs; cases hs; exact h

/-- Interrupt entry (R1210): a push, and both latches cleared. -/
theorem State.interrupt_keeps_inv {s : State} (k : Fin 5) (h : s.inv) : (s.interrupt k).1.inv := by
  cases ht : s.takesInterrupt with
  | false => rwa [State.interrupt_notTaken k ht]
  | true =>
    obtain ⟨hmem, -, hcalls⟩ := h
    rw [State.interrupt_taken k ht]
    exact ⟨s.wf_push16 _ hmem, ⟨by simp, by simp⟩, hcalls⟩

/-- Wake (R1212): from Halted and Stopped, where neither latch is set. -/
theorem State.wake_keeps_inv {s : State} (h : s.inv) : s.wake.1.inv := by
  obtain ⟨hmem, ⟨hidle, hbug⟩, hcalls⟩ := h
  unfold State.wake
  split
  · exact ⟨hmem, ⟨by simp, hbug⟩, hcalls⟩
  · exact ⟨hmem, ⟨hidle, hbug⟩, hcalls⟩

/-- Every run call keeps the invariant, whatever it replies. -/
theorem hostCall_keeps_inv {c : HostCall} {s t : State} {reply : Reply} (h : s.inv) (hc : c.isRunCall = true)
    (hs : hostCall c s = .next (t, reply)) : t.inv := by
  cases c with
  | step irq => exact stepMode_keeps_inv (s := { s with irqPending := irq }) h hs
  | execute i | write w => cases hc
  | interrupt k =>
    have ht : (s.interrupt k).1 = t := congrArg Prod.fst (Host.Outcome.next.inj hs)
    exact ht ▸ State.interrupt_keeps_inv k h
  | wake =>
    have ht : s.wake.1 = t := congrArg Prod.fst (Host.Outcome.next.inj hs)
    exact ht ▸ State.wake_keeps_inv h
  | busWrite p v =>
    obtain ⟨hmem, hlatch, hcalls⟩ := h
    cases hs
    exact ⟨s.wf_writeByte p v hmem, hlatch, hcalls⟩
  | busChange b =>
    obtain ⟨-, hlatch, hcalls⟩ := h
    cases hs
    exact ⟨of_decide_eq_true hc, hlatch, hcalls⟩
  | reset pc r =>
    obtain ⟨hmem, -, hcalls⟩ := h
    cases hs
    exact ⟨hmem, ⟨by simp [State.resetCore], by simp [State.resetCore]⟩, hcalls⟩

/-- The embedder's next operation keeps the invariant: the call it takes off the list is a run call, as are the rest. -/
theorem nextOperation_keeps_inv {s t : State} {reply : Reply} (h : s.inv) (hs : nextOperation s = .next (t, reply)) :
    t.inv := by
  unfold nextOperation at hs
  split at hs
  · exact stepMode_keeps_inv h hs
  next c rest hcalls =>
    obtain ⟨hmem, hlatch, hall⟩ := h
    rw [hcalls, List.all_cons, Bool.and_eq_true] at hall
    obtain ⟨hc, hrest⟩ := hall
    exact hostCall_keeps_inv (s := { s with calls := rest }) ⟨hmem, hlatch, hrest⟩ hc hs

/-- Settles O57: a step that answers a next state is the embedder's next operation. -/
theorem everyStepKeepsTheInvariant : Obligations.EveryStepKeepsTheInvariant := by
  intro s t h hs
  obtain ⟨reply, hop, -⟩ := outcomeOf_next.mp hs
  exact nextOperation_keeps_inv h hop

/-- Settles O59: memory lists nothing, no latch is set and no call waits. -/
theorem invariantHoldsAtReset : Obligations.InvariantHoldsAtReset := by
  have powerOn : ∀ (pc : Word) (r : ResetRegs), (State.powerOn pc r).inv := fun pc r => by
    simp [State.inv, State.latchesOk, State.powerOn, Memory.wf]
  exact ⟨powerOn _ _, powerOn⟩

end Sys2Proof.Machine
end

section
/-! SUPPORT. What every instruction keeps (R106, R122, R131, R134): the table's columns by variant, PC, SP, the registers and
the flags, and O34, O35, O37 from them. -/

namespace Sys2Proof.Machine

/-! ### The table's columns, by variant (R334) -/

/-- The length of a variant's instructions in bytes: those of the opcode, two in the CB table, and the operand bytes. -/
def formLength : Form → Nat
  | .rot _ _ | .testBit _ _ | .resetBit _ _ | .setBit _ _ => 2
  | f => 1 + operandBytes f

/-- The table's lengths are those of the variants. -/
theorem formLength_form (i : Instr) : formLength i.form = i.length := by cases i <;> rfl

/-- A row's flags column. -/
structure FlagColumn where
  z : FlagEffect
  n : FlagEffect
  h : FlagEffect
  c : FlagEffect

/-- The flags column of the instructions of an ALU operation. -/
def aluColumn : AluOp → FlagColumn
  | .add | .adc => ⟨.computed, .zero, .computed, .computed⟩
  | .sub | .sbc | .cp => ⟨.computed, .one, .computed, .computed⟩
  | .and => ⟨.computed, .zero, .one, .zero⟩
  | .xor | .or => ⟨.computed, .zero, .zero, .zero⟩

/-- The flags column of a variant's instructions. -/
def flagColumn : Form → FlagColumn
  | .aluR8 op _ | .aluD8 op => aluColumn op
  | .incR8 _ => ⟨.computed, .zero, .computed, .keep⟩
  | .decR8 _ => ⟨.computed, .one, .computed, .keep⟩
  | .daa => ⟨.computed, .keep, .zero, .computed⟩
  | .cpl => ⟨.keep, .one, .one, .keep⟩
  | .scf => ⟨.keep, .zero, .zero, .one⟩
  | .ccf => ⟨.keep, .zero, .zero, .computed⟩
  | .addHLR16 _ => ⟨.keep, .zero, .computed, .computed⟩
  | .addSPe8 | .ldHLSPe8 => ⟨.zero, .zero, .computed, .computed⟩
  | .pop .af => ⟨.computed, .computed, .computed, .computed⟩
  | .rlca | .rrca | .rla | .rra => ⟨.zero, .zero, .zero, .computed⟩
  | .rot .swap _ => ⟨.computed, .zero, .zero, .zero⟩
  | .rot _ _ => ⟨.computed, .zero, .zero, .computed⟩
  | .testBit _ _ => ⟨.computed, .zero, .one, .keep⟩
  | _ => ⟨.keep, .keep, .keep, .keep⟩

/-- The table's flags columns are those of the variants. -/
theorem flagColumn_form (i : Instr) : flagColumn i.form = ⟨i.row.z, i.row.n, i.row.h, i.row.c⟩ := by cases i <;> rfl

/-! ### Flags (R122) -/

/-- What a flags column says of the flags before and after. -/
def FlagColumn.allows (col : FlagColumn) (before after : Flags) : Prop :=
  flagAllows col.z before.z after.z ∧ flagAllows col.n before.n after.n ∧
    flagAllows col.h before.h after.h ∧ flagAllows col.c before.c after.c

/-- The ALU operations set their flags as their column says. -/
theorem alu_allows (op : AluOp) (a v : Byte) (carry : Bool) (f : Flags) :
    (aluColumn op).allows f (alu op a v carry).2 := by cases op <;> exact ⟨trivial, rfl, by trivial, by trivial⟩

/-- DAA keeps N and clears H on both its paths (R560). -/
theorem decimalAdjust_flags (a : Byte) (f : Flags) :
    (decimalAdjust a f).2.n = f.n ∧ (decimalAdjust a f).2.h = false := by
  unfold decimalAdjust; split <;> exact ⟨rfl, rfl⟩

/-- Every variant treats the flags as its column says. -/
theorem formEffect_allows (f : Form) (s : State) : (flagColumn f).allows s.f (formEffect f s).f := by
  cases f with
  -- the flags written
  | aluR8 op r => exact alu_allows op s.a (s.getR8 r) s.f.c s.f
  | aluD8 op => exact alu_allows op s.a s.imm8 s.f.c s.f
  | daa =>
    obtain ⟨hn, hh⟩ := decimalAdjust_flags s.a s.f
    exact ⟨trivial, hn, hh, trivial⟩
  | incR8 r | decR8 r => simp [FlagColumn.allows, flagColumn, flagAllows, formEffect, incByte, decByte]
  | rot op r => cases op <;> exact ⟨trivial, rfl, rfl, by trivial⟩
  | cpl | scf | ccf | addHLR16 | addSPe8 | ldHLSPe8 | rlca | rrca | rla | rra | testBit =>
    simp [FlagColumn.allows, flagColumn, flagAllows, formEffect, addWords, addSigned, accRotateFlags, bitTestFlags]
  | pop rr => cases rr <;> exact ⟨by trivial, by trivial, by trivial, by trivial⟩
  -- the flags kept
  | halt | jp t | jr t | call t | retCC cc =>
    simp only [FlagColumn.allows, flagColumn, flagAllows, formEffect]; split_ifs <;> simp
  | ldA16SP => simp [FlagColumn.allows, flagColumn, flagAllows, formEffect, State.writeWord_eq]
  | _ => simp [FlagColumn.allows, flagColumn, flagAllows, formEffect]

/-- Settles O34: the row's flags column is its variant's. -/
theorem flagsFollowTheFlagsColumn : Obligations.FlagsFollowTheFlagsColumn := by
  intro i s
  have h := formEffect_allows i.form s
  rw [flagColumn_form] at h
  exact ⟨formEffect i.form s, exec_effect i s, h⟩

/-! ### PC (R131) -/

/-- An instruction that transfers no control advances PC by its length, but for a HALT that stays (R1110). -/
theorem formEffect_pc {f : Form} {s : State} (ht : transfers f = false) (hs : f = .halt → s.haltStays = false) :
    (formEffect f s).pc = s.pc + BitVec.ofNat 16 (formLength f) := by
  cases f with
  | jp | jpHL | jr | call | retCC | ret | reti | rst => cases ht
  | halt => cases hb : s.haltBugs <;> simp [formEffect, formLength, operandBytes, hs rfl, hb]
  | ldA16SP => simp [formEffect, formLength, operandBytes, State.writeWord_eq]
  | _ => simp [formEffect, formLength, operandBytes]

/-- Settles O35: the row's length is its variant's. -/
theorem nonTransfersAdvanceByTheirLength : Obligations.NonTransfersAdvanceByTheirLength := by
  intro i s ht hs
  refine ⟨formEffect i.form s, exec_effect i s, ?_⟩
  rw [formEffect_pc ht fun h => hs (Instr.eq_of_form h), formLength_form, ofNat_toNat_add]

/-! ### SP (R134) -/

/-- An instruction not listed as writing SP keeps it. -/
theorem formEffect_sp {f : Form} (h : mayWriteSp f = false) (s : State) : (formEffect f s).sp = s.sp := by
  cases f with
  | ldSPHL | addSPe8 | push | pop | call | retCC | ret | reti | rst => cases h
  | ldR16D16 rr | incR16 rr | decR16 rr => cases rr with
    | sp => cases h
    | bc | de | hl => rfl
  | halt | jp t | jr t => simp only [formEffect]; split_ifs <;> rfl
  | ldA16SP => simp [formEffect, State.writeWord_eq]
  | _ => simp [formEffect]

/-! ### The 8-bit registers (R106) -/

@[simp] theorem State.getR8_jumpTo (s : State) (v : Word) (r : R8) : (s.jumpTo v).getR8 r = s.getR8 r := by cases r <;> rfl
@[simp] theorem State.getR8_advance (s : State) (n : Nat) (r : R8) : (s.advance n).getR8 r = s.getR8 r := by cases r <;> rfl
@[simp] theorem State.getR8_setF (s : State) (v : Flags) (r : R8) : (s.setF v).getR8 r = s.getR8 r := by cases r <;> rfl
@[simp] theorem State.getR8_setSp (s : State) (v : Word) (r : R8) : (s.setSp v).getR8 r = s.getR8 r := by cases r <;> rfl
@[simp] theorem State.getR8_setMode (s : State) (v : Mode) (r : R8) : (s.setMode v).getR8 r = s.getR8 r := by cases r <;> rfl
@[simp] theorem State.getR8_setIme (s : State) (v : Bool) (r : R8) : (s.setIme v).getR8 r = s.getR8 r := by cases r <;> rfl
@[simp] theorem State.getR8_setImePending (s : State) (v : Bool) (r : R8) : (s.setImePending v).getR8 r = s.getR8 r := by cases r <;> rfl
@[simp] theorem State.getR8_setHaltBug (s : State) (v : Bool) (r : R8) : (s.setHaltBug v).getR8 r = s.getR8 r := by cases r <;> rfl
@[simp] theorem State.getR8_pop16 (s : State) (r : R8) : s.pop16.2.getR8 r = s.getR8 r := by cases r <;> rfl

section
variable {r : R8} (hr : r ≠ .hlInd)
include hr

/-! A store leaves every register, and a register's write every other. -/

theorem State.getR8_writeByte (s : State) (p : Word) (v : Byte) : (s.writeByte p v).getR8 r = s.getR8 r := by
  cases r with
  | hlInd => exact absurd rfl hr
  | _ => rfl
theorem State.getR8_writeWord (s : State) (p v : Word) : (s.writeWord p v).getR8 r = s.getR8 r := by
  rw [State.writeWord_eq, State.getR8_writeByte hr, State.getR8_writeByte hr]
theorem State.getR8_push16 (s : State) (v : Word) : (s.push16 v).getR8 r = s.getR8 r := by
  cases r with
  | hlInd => exact absurd rfl hr
  | _ => rfl
theorem State.getR8_setR8 (s : State) (v : Byte) {dst : R8} (h : r ≠ dst) : (s.setR8 dst v).getR8 r = s.getR8 r :=
  have ⟨_, hother, _⟩ := State.wroteR8_setR8 dst v s
  hother r hr h
theorem State.getR8_setA (s : State) (v : Byte) (h : r ≠ .a) : (s.setA v).getR8 r = s.getR8 r :=
  State.getR8_setR8 hr s v h
theorem State.getR8_setR16 (s : State) (v : Word) {rr : R16} (h : pairHolds rr r = false) :
    (s.setR16 rr v).getR8 r = s.getR8 r := by
  cases rr with
  | bc => cases r with
    | b | c => cases h
    | _ => rfl
  | de => cases r with
    | d | e => cases h
    | _ => rfl
  | hl => cases r with
    | h | l => cases h
    | hlInd => exact absurd rfl hr
    | _ => rfl
  | sp => cases r <;> rfl
theorem State.getR8_setHL (s : State) (v : Word) (h : pairHolds .hl r = false) :
    (s.setHL v).getR8 r = s.getR8 r := State.getR8_setR16 (rr := .hl) hr s v h

/-- A pop leaves every register but those of its pair (R950, R951). -/
theorem State.getR8_setR16stk (s : State) (v : Word) {rr : R16stk} (h : mayWrite (.pop rr) r = false) :
    (s.setR16stk rr v).getR8 r = s.getR8 r := by
  cases rr with
  | bc => exact State.getR8_setR16 (rr := .bc) hr s v h
  | de => exact State.getR8_setR16 (rr := .de) hr s v h
  | hl => exact State.getR8_setR16 (rr := .hl) hr s v h
  | af => cases r with
    | a => cases h
    | _ => rfl

/-- The step of HL after an access leaves every other register (R314). -/
theorem State.getR8_afterMem (s : State) {m : R16mem} (h : mayWrite (.ldMA m) r = false) :
    (s.afterMem m).getR8 r = s.getR8 r := by
  cases m with
  | bc | de => rfl
  | hlInc | hlDec => exact State.getR8_setHL hr s _ h

/-- An ALU operation leaves every register but A, and CP leaves A too (R545). -/
theorem State.getR8_setA_alu (s : State) (v : Byte) {op : AluOp} (h : (op != .cp && r == .a) = false) :
    (s.setA (alu op s.a v s.f.c).1).getR8 r = s.getR8 r := by
  cases op with
  | cp => rfl
  | _ => exact State.getR8_setA hr s _ (by simpa using h)

/-- An instruction not listed as writing a register keeps it. -/
theorem formEffect_getR8 {f : Form} (h : mayWrite f r = false) (s : State) : (formEffect f s).getR8 r = s.getR8 r := by
  cases f with
  | ldR8R8 dst | ldR8D8 dst | incR8 dst | decR8 dst | rot _ dst | resetBit _ dst | setBit _ dst =>
    have hne : r ≠ dst := by simpa [mayWrite] using h
    simp [formEffect, State.getR8_setR8 hr, hne]
  | ldAM m =>
    have ha : r ≠ .a := by cases m <;> simp_all [mayWrite]
    have hm : mayWrite (.ldMA m) r = false := by cases m <;> simp_all [mayWrite]
    simp [formEffect, State.getR8_afterMem hr _ hm, State.getR8_setA hr _ _ ha]
  | ldMA m => simp [formEffect, State.getR8_afterMem hr _ h, State.getR8_writeByte hr]
  | ldAA16 | ldhAA8 | ldhAC | daa | cpl | rlca | rrca | rla | rra =>
    have ha : r ≠ .a := by simpa [mayWrite] using h
    simp [formEffect, State.getR8_setA hr, ha]
  | ldA16A | ldhA8A | ldhCA => simp [formEffect, State.getR8_writeByte hr]
  | ldA16SP => simp [formEffect, State.getR8_writeWord hr]
  | addHLR16 | ldHLSPe8 => simp [formEffect, State.getR8_setHL hr _ _ h]
  | ldR16D16 rr | incR16 rr | decR16 rr => simp [formEffect, State.getR8_setR16 hr _ _ h]
  | pop rr => simp [formEffect, State.getR8_setR16stk hr _ _ h]
  | aluR8 op src | aluD8 op => simp [formEffect, State.getR8_setA_alu hr _ _ h]
  | push | rst => simp [formEffect, State.getR8_push16 hr]
  | call t => simp only [formEffect]; split_ifs <;> simp [State.getR8_push16 hr]
  | halt | jp t | jr t | retCC cc => simp only [formEffect]; split_ifs <;> simp
  | _ => simp [formEffect]

end

/-- Settles O37: the frame of the registers and of SP, by variant. -/
theorem registersChangeOnlyWhereWritten : Obligations.RegistersChangeOnlyWhereWritten := fun i s =>
  ⟨formEffect i.form s, exec_effect i s, fun _ hr h => formEffect_getR8 hr h s, fun h => formEffect_sp h s⟩

end Sys2Proof.Machine
end

section
/-! SUPPORT. The reset state and the views of the state: the flags byte (R120, R121), the register pairs (R110 to R114), and
O51, O52 and O53. -/

namespace Sys2Proof.Machine

/-! ### Power-on -/

/-- Settles O51: power-on is reset over an empty bus state; at reset every register and every byte of memory is zero. -/
theorem stateAtPowerOn : Obligations.StateAtPowerOn := by
  have hreg : ∀ r, State.reset.getR8 r = 0x00#8 := fun r => by cases r <;> rfl
  exact ⟨fun _ _ _ => rfl, rfl, fun r _ => hreg r, rfl, rfl, fun _ => rfl, rfl, rfl⟩

/-! ### The flags byte -/

/-- The four flags stand in bits 7 to 4 of the byte (R121). -/
theorem Flags.toByte_toNat (f : Flags) :
    f.toByte.toNat = 128 * f.z.toNat + 64 * f.n.toNat + 32 * f.h.toNat + 16 * f.c.toNat := by
  have := f.z.toNat_le; have := f.n.toNat_le; have := f.h.toNat_le; have := f.c.toNat_le
  rw [Flags.toByte, BitVec.toNat_ofNat]
  omega

/-- Flags written as a byte read back. -/
@[simp] theorem Flags.ofByte_toByte (f : Flags) : Flags.ofByte f.toByte = f := by
  obtain ⟨z, n, h, c⟩ := f
  cases z <;> cases n <;> cases h <;> cases c <;> rfl

/-- A byte read as flags is written back but for its low nibble (R121). -/
theorem Flags.toByte_ofByte (v : Byte) : (Flags.ofByte v).toByte = v &&& 0xF0#8 := by revert v; decide

/-- Settles O52. -/
theorem flagsByteRoundTrips : Obligations.FlagsByteRoundTrips :=
  ⟨fun f => ⟨f.toByte_toNat, f.ofByte_toByte⟩, fun v => ⟨rfl, Flags.toByte_ofByte v, (Flags.ofByte v).ofByte_toByte⟩⟩

/-! ### The pairs -/

/-- A word and the mask 0xFFF0 is its halves, the low one without its low nibble. -/
theorem concat16_and_low_nibble (hi lo : Byte) : concat16 hi (lo &&& 0xF0#8) = concat16 hi lo &&& 0xFFF0#16 := by
  have hmask : 0xFFF0#16 = concat16 0xFF#8 0xF0#8 := rfl
  have hall : hi &&& 0xFF#8 = hi := BitVec.and_allOnes
  rw [hmask, concat16, concat16, concat16, BitVec.and_append, hall]

/-- AF reads back as written but for the low nibble (R113). -/
theorem State.af_setAF (s : State) (v : Word) : (s.setAF v).af = v &&& 0xFFF0#16 := by
  have h : (s.setAF v).af = concat16 (hiByte v) (Flags.ofByte (loByte v)).toByte := rfl
  rw [h, Flags.toByte_ofByte, concat16_and_low_nibble, concat16_halves]

/-- Settles O53: the halves of a word, and the round trip of each pair. -/
theorem pairViewsRoundTrip : Obligations.PairViewsRoundTrip := fun s v =>
  ⟨concat16_toNat s.b s.c, concat16_toNat s.d s.e, concat16_toNat s.h s.l, concat16_toNat s.a s.f.toByte,
    rfl, rfl, rfl, rfl, hiByte_toNat v, loByte_toNat v,
    s.bc_setBC v, s.de_setDE v, s.hl_setHL v, s.af_setAF v⟩

end Sys2Proof.Machine
end

section
/-! SUPPORT. N and H are read only by DAA and PUSH AF (R123), and O39. The idea is that a write of N and H passes by every
other instruction: either the instruction keeps both flags, and what was written is seen after it, or it writes both, and
what was written is lost. -/

namespace Sys2Proof.Machine

/-- The state with N and H written. -/
def State.setNH (n h : Bool) (s : State) : State := { s with f := { s.f with n := n, h := h } }

/-! HALT and the conditions read neither (R425, R1110). -/

@[simp] theorem State.haltStays_setNH (s : State) (n h : Bool) : (s.setNH n h).haltStays = s.haltStays := rfl
@[simp] theorem State.haltBugs_setNH (s : State) (n h : Bool) : (s.setNH n h).haltBugs = s.haltBugs := rfl
@[simp] theorem jumpTestHolds_setNH (t : JumpTest) (s : State) (n h : Bool) :
    jumpTestHolds t (s.setNH n h).f = jumpTestHolds t s.f := by rcases t with (_ | _ | _ | _) | _ <;> rfl

/-- A variant's instructions keep N and H. -/
def keepsNH (f : Form) : Prop := (flagColumn f).n = .keep ∧ (flagColumn f).h = .keep

/-- Every instruction but DAA and PUSH AF answers the same after N and H are written: with the flags as written where it
keeps them, and with no trace of the write where it does not. -/
theorem formEffect_setNH {f : Form} (hdaa : f ≠ .daa) (hpush : f ≠ .push .af) (s : State) (n h : Bool) :
    keepsNH f ∧ formEffect f (s.setNH n h) = (formEffect f s).setNH n h ∨
      formEffect f (s.setNH n h) = formEffect f s := by
  cases f with
  -- both flags written
  | aluR8 _ r | incR8 r | decR8 r | rot _ r | testBit _ r => cases r <;> exact .inr rfl
  | addHLR16 rr => cases rr <;> exact .inr rfl
  | aluD8 | cpl | scf | ccf | addSPe8 | ldHLSPe8 | rlca | rrca | rla | rra => exact .inr rfl
  | pop rr =>
    cases rr with
    | af => exact .inr rfl
    | bc | de | hl => exact .inl ⟨⟨rfl, rfl⟩, rfl⟩
  -- both flags kept
  | daa => exact absurd rfl hdaa
  | push rr =>
    cases rr with
    | af => exact absurd rfl hpush
    | bc | de | hl => exact .inl ⟨⟨rfl, rfl⟩, rfl⟩
  | ldR8R8 dst src => refine .inl ⟨⟨rfl, rfl⟩, ?_⟩; cases dst <;> cases src <;> rfl
  | ldR8D8 r | resetBit _ r | setBit _ r => refine .inl ⟨⟨rfl, rfl⟩, ?_⟩; cases r <;> rfl
  | ldAM m | ldMA m => refine .inl ⟨⟨rfl, rfl⟩, ?_⟩; cases m <;> rfl
  | ldR16D16 rr | incR16 rr | decR16 rr => refine .inl ⟨⟨rfl, rfl⟩, ?_⟩; cases rr <;> rfl
  | halt =>
    refine .inl ⟨⟨rfl, rfl⟩, ?_⟩
    cases hs : s.haltStays <;> cases hb : s.haltBugs <;> simp [formEffect, hs, hb] <;> rfl
  | jp t | jr t | call t =>
    refine .inl ⟨⟨rfl, rfl⟩, ?_⟩
    cases ht : jumpTestHolds t s.f <;> simp [formEffect, ht] <;> rfl
  | retCC cc =>
    refine .inl ⟨⟨rfl, rfl⟩, ?_⟩
    cases ht : jumpTestHolds (.cond cc) s.f <;> simp [formEffect, ht] <;> rfl
  | _ => exact .inl ⟨⟨rfl, rfl⟩, rfl⟩

/-- Settles O39: N and H written before pass by the instruction. -/
theorem onlyDaaAndPushAFReadNAndH : Obligations.OnlyDaaAndPushAFReadNAndH := by
  intro i s n h hdaa hpush
  refine ⟨formEffect i.form s, formEffect i.form (s.setNH n h), exec_effect i s, exec_effect i _, ?_⟩
  obtain ⟨⟨hn, hh⟩, he⟩ | he := formEffect_setNH (fun hf => hdaa (Instr.eq_of_form hf))
      (fun hf => hpush (Instr.eq_of_form hf)) s n h
  · rw [flagColumn_form] at hn hh
    rw [he]
    exact ⟨rfl, fun hk => absurd hn hk, fun hk => absurd hh hk⟩
  · rw [he]
    exact ⟨rfl, fun _ => rfl, fun _ => rfl⟩

end Sys2Proof.Machine
end

section
/-! SUPPORT. Memory: that its canonical form is canonical, what every instruction's stores leave, and O36, O55 and O56. -/

namespace Sys2Proof.Machine

/-! ### Accesses of memory (R202 to R204) -/

/-- Settles O55: over plain RAM by the law of a read after a write; over any bus an access is the bus's by definition. -/
theorem readsSeeTheLastWrite : Obligations.ReadsSeeTheLastWrite :=
  ⟨fun s p q v => ⟨s.readByte_writeByte p q v, s.memRead_default p, rfl⟩, fun _ _ _ _ => ⟨rfl, rfl⟩⟩

/-! ### The canonical form: its cells are what its reads give -/

/-- An address that does not read as an unlisted one is listed, with the byte it reads as. -/
theorem Memory.mem_of_read_ne {m : List Host.Cell} {n : Nat} (h : Memory.read m n ≠ Config.unlistedByte) :
    (n, Memory.read m n) ∈ m := by
  induction m with
  | nil => exact absurd rfl h
  | cons cell m ih =>
    obtain ⟨k, w⟩ := cell
    by_cases hk : k = n
    · simp [Memory.read, hk]
    · simp only [Memory.read, hk, if_false] at h ⊢
      exact List.mem_cons_of_mem _ (ih h)

/-- Where no address is listed twice, a listed one reads as the byte listed with it. -/
theorem Memory.read_of_mem {m : List Host.Cell} (hm : m.Pairwise fun x y => x.1 < y.1) {cell : Host.Cell}
    (h : cell ∈ m) : Memory.read m cell.1 = cell.2 := by
  induction m with
  | nil => cases h
  | cons c m ih =>
    obtain ⟨hc, hm⟩ := List.pairwise_cons.mp hm
    rcases List.mem_cons.mp h with rfl | h
    · simp [Memory.read]
    · simp [Memory.read, (hc cell h).ne, ih hm h]

/-- A memory in the form lists exactly the addresses that do not read as an unlisted one, each with what it reads as. -/
theorem Memory.mem_iff_read {m : List Host.Cell} (hm : Memory.wf m) (cell : Host.Cell) :
    cell ∈ m ↔ Memory.read m cell.1 = cell.2 ∧ cell.2 ≠ Config.unlistedByte := by
  obtain ⟨hsorted, hcells⟩ := hm
  constructor
  · intro h
    obtain ⟨-, hne⟩ := hcells cell h
    exact ⟨Memory.read_of_mem hsorted h, hne⟩
  · rintro ⟨hread, hne⟩
    have h := Memory.mem_of_read_ne (hread ▸ hne)
    rwa [hread] at h

/-- Two memories in the form that read alike list the same cells, in the one rising order. -/
theorem Memory.eq_of_read_eq {m m' : List Host.Cell} (hm : Memory.wf m) (hm' : Memory.wf m')
    (h : ∀ n, Memory.read m n = Memory.read m' n) : m = m' := by
  have hmem : ∀ cell, cell ∈ m ↔ cell ∈ m' := fun cell => by
    rw [Memory.mem_iff_read hm, Memory.mem_iff_read hm', h]
  exact List.Pairwise.eq_of_mem_iff (r := InvImage (· < ·) Prod.fst) hm.left hm'.left hmem

/-- Settles O56: a bus write keeps the form, and the form is determined by its reads. -/
theorem memoryFormIsCanonical : Obligations.MemoryFormIsCanonical :=
  ⟨State.wf_writeByte, fun _ _ => Memory.eq_of_read_eq⟩

/-! ### What an instruction's stores leave (R203) -/

/-- Memory is as before but for stores at the listed addresses, and the same memory where none is listed. -/
def storesOnlyAt (addrs : List Word) (s t : State) : Prop :=
  sameMemoryExcept addrs s t ∧ (addrs = [] → t.mem = s.mem)

section
variable {s t : State}

/-- What leaves memory stores at no address. -/
theorem storesOnlyAt_of_mem_eq {addrs : List Word} (h : t.mem = s.mem) : storesOnlyAt addrs s t :=
  ⟨fun p _ => State.readByte_congr h p, fun _ => h⟩

/-- A byte written stores at its address (R203). -/
theorem storesOnlyAt_of_writeByte {p : Word} {v : Byte} (h : t.mem = (s.writeByte p v).mem) : storesOnlyAt [p] s t :=
  have ⟨_, hother⟩ := sameMemoryExcept_of_write h
  ⟨hother, by simp⟩

/-- A word written stores at its address and the next (R211). -/
theorem storesOnlyAt_of_writeWord {p v : Word} (h : t.mem = (s.writeWord p v).mem) : storesOnlyAt [p, p + 1] s t := by
  refine ⟨fun q hq => ?_, by simp⟩
  obtain ⟨hlo, hhi⟩ : q ≠ p ∧ q ≠ p + 1 := by simpa using hq
  rw [State.readByte_congr h, State.writeWord_eq, State.readByte_writeByte, if_neg hhi, State.readByte_writeByte,
    if_neg hlo]

/-- A push stores at the two addresses under SP (R430). -/
theorem storesOnlyAt_of_push16 {v : Word} (h : t.mem = (s.push16 v).mem) :
    storesOnlyAt [s.sp - 1, s.sp - 2] s t := by
  obtain ⟨-, -, -, hother⟩ := State.pushedWord_push16 s v
  exact ⟨fun p hp => (State.readByte_congr h p).trans (hother p hp), by simp⟩

end

/-- Every instruction stores at its listed addresses alone. -/
theorem formEffect_storesOnlyAt (f : Form) (s : State) : storesOnlyAt (storeAddrs f s) s (formEffect f s) := by
  cases f with
  -- an 8-bit operand: a store for (HL) alone
  | ldR8R8 r | ldR8D8 r | incR8 r | decR8 r | rot _ r | resetBit _ r | setBit _ r =>
    cases r with
    | hlInd => exact storesOnlyAt_of_writeByte rfl
    | _ => exact storesOnlyAt_of_mem_eq rfl
  -- A or SP to memory
  | ldMA m => exact storesOnlyAt_of_writeByte (State.afterMem_mem _ m)
  | ldA16A | ldhA8A | ldhCA => exact storesOnlyAt_of_writeByte rfl
  | ldA16SP => exact storesOnlyAt_of_writeWord rfl
  -- the stack: a CALL not taken stores nothing
  | push rr | rst n => exact storesOnlyAt_of_push16 rfl
  | call t =>
    simp only [storeAddrs, formEffect]
    split_ifs
    · exact storesOnlyAt_of_push16 rfl
    · exact storesOnlyAt_of_mem_eq rfl
  -- no store
  | halt | jp t | jr t | retCC cc =>
    refine storesOnlyAt_of_mem_eq ?_
    simp only [formEffect]; split_ifs <;> rfl
  | _ => exact storesOnlyAt_of_mem_eq (by simp [formEffect])

/-- Settles O36: the frame of memory and of the device state, by variant. -/
theorem memoryChangesOnlyWhereStored : Obligations.MemoryChangesOnlyWhereStored := fun i s =>
  have ⟨hframe, hnone⟩ := formEffect_storesOnlyAt i.form s
  ⟨formEffect i.form s, exec_effect i s, hframe, hnone, formEffect_device i.form s⟩

end Sys2Proof.Machine
end

section
/-! SUPPORT. The encoding: O1 to O6. The idea is that the two tables of R323 and R324 are read by fields, so a variant has one
opcode byte, which its operands' codes give back; the decoder answers a variant at that byte of its table and nowhere else.
With operand bytes, the decoder's answer is then characterised by one equivalence, whose two directions are O2 and O3. -/

namespace Sys2Proof

/-! ### Opcode fields (R305) -/

/-- An entry of the opcode tables: its table (`true` for the CB table) and the fields of its opcode byte. -/
structure Entry where
  isPrefixed : Bool
  x : Nat
  y : Nat
  z : Nat

/-- The entry of an opcode byte in a table. -/
def Entry.ofOpcode (op : Byte) (isPrefixed : Bool) : Entry := ⟨isPrefixed, opX op, opY op, opZ op⟩

/-- The opcode byte of an entry. -/
def Entry.opcode (e : Entry) : Byte := BitVec.ofNat 8 (64 * e.x + 8 * e.y + e.z)

theorem opX_eq (op : Byte) : opX op = op.toNat / 64 % 4 := by
  simp [opX, BitVec.extractLsb'_toNat, Nat.shiftRight_eq_div_pow]
theorem opY_eq (op : Byte) : opY op = op.toNat / 8 % 8 := by
  simp [opY, BitVec.extractLsb'_toNat, Nat.shiftRight_eq_div_pow]
theorem opZ_eq (op : Byte) : opZ op = op.toNat % 8 := by simp [opZ, BitVec.extractLsb'_toNat]
theorem opP_eq (op : Byte) : opP op = op.toNat / 16 % 4 := by
  simp [opP, BitVec.extractLsb'_toNat, Nat.shiftRight_eq_div_pow]
theorem opQ_eq (op : Byte) : opQ op = op.toNat / 8 % 2 := by
  simp [opQ, BitVec.extractLsb'_toNat, Nat.shiftRight_eq_div_pow]

theorem opX_lt (op : Byte) : opX op < 4 := by rw [opX_eq]; omega
theorem opY_lt (op : Byte) : opY op < 8 := by rw [opY_eq]; omega
theorem opZ_lt (op : Byte) : opZ op < 8 := by rw [opZ_eq]; omega
theorem opP_lt (op : Byte) : opP op < 4 := by rw [opP_eq]; omega
theorem opQ_lt (op : Byte) : opQ op < 2 := by rw [opQ_eq]; omega

/-- p and q are the two parts of y. -/
theorem opY_eq_opP_opQ (op : Byte) : opY op = 2 * opP op + opQ op := by rw [opY_eq, opP_eq, opQ_eq]; omega

/-- A byte's fields give the byte back. -/
theorem Entry.opcode_ofOpcode (op : Byte) (p : Bool) : (Entry.ofOpcode op p).opcode = op := by
  have h : 64 * (op.toNat / 64 % 4) + 8 * (op.toNat / 8 % 8) + op.toNat % 8 = op.toNat := by omega
  simp only [Entry.opcode, Entry.ofOpcode, opX_eq, opY_eq, opZ_eq, h, BitVec.ofNat_toNat, BitVec.setWidth_eq]

/-! ### Operand codes (R310 to R318): the selectors are declared in code order, so the code is the constructor's index -/

theorem R8.ctorIdx_ofCode {n : Nat} (h : n < 8) : (R8.ofCode n).ctorIdx = n := by interval_cases n <;> rfl
theorem R16.ctorIdx_ofCode {n : Nat} (h : n < 4) : (R16.ofCode n).ctorIdx = n := by interval_cases n <;> rfl
theorem R16stk.ctorIdx_ofCode {n : Nat} (h : n < 4) : (R16stk.ofCode n).ctorIdx = n := by interval_cases n <;> rfl
theorem R16mem.ctorIdx_ofCode {n : Nat} (h : n < 4) : (R16mem.ofCode n).ctorIdx = n := by interval_cases n <;> rfl
theorem Cond.ctorIdx_ofCode {n : Nat} (h : n < 4) : (Cond.ofCode n).ctorIdx = n := by interval_cases n <;> rfl
theorem AluOp.ctorIdx_ofCode {n : Nat} (h : n < 8) : (AluOp.ofCode n).ctorIdx = n := by interval_cases n <;> rfl
theorem RotOp.ctorIdx_ofCode {n : Nat} (h : n < 8) : (RotOp.ofCode n).ctorIdx = n := by interval_cases n <;> rfl
theorem index3_val {n : Nat} (h : n < 8) : (index3 n).val = n := Nat.mod_eq_of_lt h

/-! ### The entry of a variant (R323, R324) -/

/-- The entry at which a variant stands. -/
def Form.entry : Form → Entry
  | .nop => ⟨false, 0, 0, 0⟩
  | .ldA16SP => ⟨false, 0, 1, 0⟩
  | .stop => ⟨false, 0, 2, 0⟩
  | .jr .always => ⟨false, 0, 3, 0⟩
  | .jr (.cond cc) => ⟨false, 0, 4 + cc.ctorIdx, 0⟩
  | .ldR16D16 rr => ⟨false, 0, 2 * rr.ctorIdx, 1⟩
  | .addHLR16 rr => ⟨false, 0, 2 * rr.ctorIdx + 1, 1⟩
  | .ldMA m => ⟨false, 0, 2 * m.ctorIdx, 2⟩
  | .ldAM m => ⟨false, 0, 2 * m.ctorIdx + 1, 2⟩
  | .incR16 rr => ⟨false, 0, 2 * rr.ctorIdx, 3⟩
  | .decR16 rr => ⟨false, 0, 2 * rr.ctorIdx + 1, 3⟩
  | .incR8 r => ⟨false, 0, r.ctorIdx, 4⟩
  | .decR8 r => ⟨false, 0, r.ctorIdx, 5⟩
  | .ldR8D8 r => ⟨false, 0, r.ctorIdx, 6⟩
  | .rlca => ⟨false, 0, 0, 7⟩
  | .rrca => ⟨false, 0, 1, 7⟩
  | .rla => ⟨false, 0, 2, 7⟩
  | .rra => ⟨false, 0, 3, 7⟩
  | .daa => ⟨false, 0, 4, 7⟩
  | .cpl => ⟨false, 0, 5, 7⟩
  | .scf => ⟨false, 0, 6, 7⟩
  | .ccf => ⟨false, 0, 7, 7⟩
  | .halt => ⟨false, 1, 6, 6⟩
  | .ldR8R8 dst src => ⟨false, 1, dst.ctorIdx, src.ctorIdx⟩
  | .aluR8 op r => ⟨false, 2, op.ctorIdx, r.ctorIdx⟩
  | .retCC cc => ⟨false, 3, cc.ctorIdx, 0⟩
  | .ldhA8A => ⟨false, 3, 4, 0⟩
  | .addSPe8 => ⟨false, 3, 5, 0⟩
  | .ldhAA8 => ⟨false, 3, 6, 0⟩
  | .ldHLSPe8 => ⟨false, 3, 7, 0⟩
  | .pop rr => ⟨false, 3, 2 * rr.ctorIdx, 1⟩
  | .ret => ⟨false, 3, 1, 1⟩
  | .reti => ⟨false, 3, 3, 1⟩
  | .jpHL => ⟨false, 3, 5, 1⟩
  | .ldSPHL => ⟨false, 3, 7, 1⟩
  | .jp (.cond cc) => ⟨false, 3, cc.ctorIdx, 2⟩
  | .ldhCA => ⟨false, 3, 4, 2⟩
  | .ldA16A => ⟨false, 3, 5, 2⟩
  | .ldhAC => ⟨false, 3, 6, 2⟩
  | .ldAA16 => ⟨false, 3, 7, 2⟩
  | .jp .always => ⟨false, 3, 0, 3⟩
  | .di => ⟨false, 3, 6, 3⟩
  | .ei => ⟨false, 3, 7, 3⟩
  | .call (.cond cc) => ⟨false, 3, cc.ctorIdx, 4⟩
  | .push rr => ⟨false, 3, 2 * rr.ctorIdx, 5⟩
  | .call .always => ⟨false, 3, 1, 5⟩
  | .aluD8 op => ⟨false, 3, op.ctorIdx, 6⟩
  | .rst n => ⟨false, 3, n.val, 7⟩
  | .rot op r => ⟨true, 0, op.ctorIdx, r.ctorIdx⟩
  | .testBit b r => ⟨true, 1, b.val, r.ctorIdx⟩
  | .resetBit b r => ⟨true, 2, b.val, r.ctorIdx⟩
  | .setBit b r => ⟨true, 3, b.val, r.ctorIdx⟩

/-- The table's entries (R334) are those of the variants. -/
theorem Instr.entry_form (i : Instr) : i.form.entry.opcode = i.row.opcode ∧ i.form.entry.isPrefixed = i.row.prefixed := by
  cases i <;> exact ⟨rfl, rfl⟩

/-- The same from the variant; the excluded LD (HL),(HL) stands at HALT's entry. -/
theorem Form.row_instr (f : Form) : f.instr.row.opcode = f.entry.opcode ∧ f.instr.row.prefixed = f.entry.isPrefixed := by
  by_cases h : f.wf = true
  · obtain ⟨hop, hp⟩ := Instr.entry_form f.instr
    rw [Form.form_instr h] at hop hp
    exact ⟨hop.symm, hp.symm⟩
  · cases f with
    | ldR8R8 dst src =>
      obtain ⟨rfl, rfl⟩ : dst = .hlInd ∧ src = .hlInd := by simpa [Form.wf] using h
      exact ⟨rfl, rfl⟩
    | _ => exact absurd rfl h

/-! ### The decoder answers a variant at its entry -/

section
variable {op : Byte} {f : Form}

theorem opY_eq_of_opQ_eq_zero (h : opQ op = 0) : opY op = 2 * opP op := by rw [opY_eq_opP_opQ, h, Nat.add_zero]
theorem opY_eq_of_opQ_ne_zero (h : opQ op ≠ 0) : opY op = 2 * opP op + 1 := by
  rw [opY_eq_opP_opQ, show opQ op = 1 by have := opQ_lt op; omega]

/-- Quadrant 0 (R323), by z and then by y or by q and p. -/
theorem entry_of_decodeQuadrant0 (h : decodeQuadrant0 op = some f) : f.entry = ⟨false, 0, opY op, opZ op⟩ := by
  have hy := opY_lt op
  have hp := opP_lt op
  unfold decodeQuadrant0 at h
  dsimp only at h
  split at h
  -- NOP, LD (a16),SP, STOP and JR; the conditions from y = 4 on
  case h_1 z =>
    split at h <;> cases h
    case h_5 =>
      have y : 4 ≤ opY op := by grind
      simp [Form.entry, Cond.ctorIdx_ofCode (show opY op - 4 < 4 by omega), y, z]
    all_goals simp [Form.entry, *]
  -- the pairs by p: LD rr,d16 and ADD HL,rr, INC rr and DEC rr
  case h_2 z | h_4 z =>
    split_ifs at h with q <;> cases h
    · simp [Form.entry, R16.ctorIdx_ofCode hp, opY_eq_of_opQ_eq_zero q, z]
    · simp [Form.entry, R16.ctorIdx_ofCode hp, opY_eq_of_opQ_ne_zero q, z]
  -- LD (rr),A and LD A,(rr)
  case h_3 z =>
    split_ifs at h with q <;> cases h
    · simp [Form.entry, R16mem.ctorIdx_ofCode hp, opY_eq_of_opQ_eq_zero q, z]
    · simp [Form.entry, R16mem.ctorIdx_ofCode hp, opY_eq_of_opQ_ne_zero q, z]
  -- INC r, DEC r and LD r,d8
  case h_5 z | h_6 z | h_7 z => cases h; simp [Form.entry, R8.ctorIdx_ofCode hy, z]
  -- the accumulator and flag operations
  case h_8 =>
    have z : opZ op = 7 := by grind [opZ_lt op]
    split at h <;> cases h
    case h_8 =>
      have y : opY op = 7 := by grind
      simp [Form.entry, y, z]
    all_goals simp [Form.entry, *]

/-- Quadrant 3 (R323), by z and then by y or by q and p. -/
theorem entry_of_decodeQuadrant3 (h : decodeQuadrant3 op = some f) : f.entry = ⟨false, 3, opY op, opZ op⟩ := by
  have hy := opY_lt op
  have hp := opP_lt op
  unfold decodeQuadrant3 at h
  dsimp only at h
  split at h
  -- RET cc and JP cc where y < 4, and the high-page and absolute forms
  case h_1 z | h_3 z =>
    split at h <;> cases h
    case h_5 =>
      have y : opY op < 4 := by grind
      simp [Form.entry, Cond.ctorIdx_ofCode y, z]
    all_goals simp [Form.entry, *]
  -- POP, and RET, RETI, JP HL and LD SP,HL by p
  case h_2 z =>
    split_ifs at h with q
    · cases h; simp [Form.entry, R16stk.ctorIdx_ofCode hp, opY_eq_of_opQ_eq_zero q, z]
    · have y := opY_eq_of_opQ_ne_zero q
      split at h <;> cases h
      case h_4 =>
        have p : opP op = 3 := by grind
        simp [Form.entry, y, p, z]
      all_goals simp [Form.entry, *]
  -- JP, DI and EI
  case h_4 z => split at h <;> cases h <;> simp [Form.entry, *]
  -- CALL cc
  case h_5 z =>
    split_ifs at h with y
    cases h; simp [Form.entry, Cond.ctorIdx_ofCode y, z]
  -- PUSH and CALL
  case h_6 z =>
    split_ifs at h with q p <;> cases h
    · simp [Form.entry, R16stk.ctorIdx_ofCode hp, opY_eq_of_opQ_eq_zero q, z]
    · simp [Form.entry, opY_eq_of_opQ_ne_zero q, p, z]
  -- the ALU operations on d8
  case h_7 z => cases h; simp [Form.entry, AluOp.ctorIdx_ofCode hy, z]
  -- RST
  case h_8 =>
    have z : opZ op = 7 := by grind [opZ_lt op]
    cases h; simp [Form.entry, index3_val hy, z]

/-- The plain table (R323), by quadrant. -/
theorem entry_of_decodePlain (h : decodePlain op = some f) : f.entry = .ofOpcode op false := by
  unfold decodePlain at h
  unfold Entry.ofOpcode
  split at h
  case h_1 x => rw [entry_of_decodeQuadrant0 h, x]
  case h_2 x =>
    split_ifs at h with hhalt <;> cases h
    · simp [Form.entry, x, hhalt]
    · simp [Form.entry, R8.ctorIdx_ofCode (opY_lt op), R8.ctorIdx_ofCode (opZ_lt op), x]
  case h_3 x =>
    cases h; simp [Form.entry, AluOp.ctorIdx_ofCode (opY_lt op), R8.ctorIdx_ofCode (opZ_lt op), x]
  case h_4 =>
    have x : opX op = 3 := by grind [opX_lt op]
    rw [entry_of_decodeQuadrant3 h, x]

end

/-- The CB table (R324), by quadrant. -/
theorem entry_decodeCB (op : Byte) : (decodeCB op).entry = .ofOpcode op true := by
  have hr := R8.ctorIdx_ofCode (opZ_lt op)
  unfold decodeCB Entry.ofOpcode
  dsimp only
  split
  case h_1 x => simp [Form.entry, RotOp.ctorIdx_ofCode (opY_lt op), hr, x]
  case h_2 x | h_3 x => simp [Form.entry, index3_val (opY_lt op), hr, x]
  case h_4 =>
    have x : opX op = 3 := by grind [opX_lt op]
    simp [Form.entry, index3_val (opY_lt op), hr, x]

/-- The decoder answers a variant at its entry alone. -/
theorem entry_of_decodeForm {op : Byte} {p : Bool} {f : Form} (h : decodeForm op p = some f) :
    f.entry = .ofOpcode op p := by
  cases p with
  | false => exact entry_of_decodePlain h
  | true => cases h; exact entry_decodeCB op

/-! ### The decoder and the rows of opcode_table.json (R334, R341) -/

/-- The encoding statement, of every row. -/
theorem Laws.Encoding.all (i : Instr) : Laws.Encoding.Statement i := by cases i <;> exact ⟨rfl, by decide, rfl⟩

theorem decode_eq_map (op : Byte) (p : Bool) : decode op p = (decodeForm op p).map Form.instr := by
  unfold decode decodeAdmitting
  cases decodeForm op p <;> rfl

/-- The decoder answers an instruction exactly at its row's entry. -/
theorem decode_eq_some_iff {op : Byte} {p : Bool} {i : Instr} :
    decode op p = some i ↔ i.row.opcode = op ∧ i.row.prefixed = p := by
  constructor
  · intro h
    rw [decode_eq_map, Option.map_eq_some_iff] at h
    obtain ⟨f, hf, rfl⟩ := h
    obtain ⟨hop, hp⟩ := f.row_instr
    rw [entry_of_decodeForm hf] at hop hp
    exact ⟨hop.trans (Entry.opcode_ofOpcode op p), hp⟩
  · rintro ⟨rfl, rfl⟩
    have ⟨hrow, _⟩ := Laws.Encoding.all i
    exact hrow

/-- Over any `ADMITTED` the decoder is this machine's on the admitted entries, and answers none on the others (R331). -/
theorem decodeAdmitting_eq (admitted : Bool → Byte → Bool) (op : Byte) (p : Bool) :
    decodeAdmitting admitted op p = if admitted p op then decode op p else none := by
  rw [decode_eq_map]
  unfold decodeAdmitting
  cases decodeForm op p <;> simp

/-- Settles O6: an entry not admitted is none, and an admitted one is as in this machine's decoder. -/
theorem decoderAdmitsExactlyTheAdmitted : Obligations.DecoderAdmitsExactlyTheAdmitted := by
  refine ⟨fun admitted op p => ?_, fun op p => ⟨rfl, rfl⟩⟩
  rw [decodeAdmitting_eq]
  cases admitted p op with
  | false => simp
  | true => exact ⟨fun i => by simp [decode_eq_some_iff], by simp [decode_eq_map]⟩

/-- Settles O5: a check of the 512 entries. -/
theorem unimplementedEntriesAreTheTwelve : Obligations.UnimplementedEntriesAreTheTwelve := by
  intro op p
  cases p with
  | true => simp [decode_eq_map, decodeForm]
  | false => revert op; decide

/-- Settles O1: each word is run through the decoder. -/
theorem spelledOutWordsDecode : Obligations.SpelledOutWordsDecode :=
  ⟨rfl, rfl, rfl, rfl, rfl, rfl, rfl, rfl, rfl, rfl⟩

/-! ### Lengths (R300, R302) -/

/-- The plain opcodes with a 16-bit operand. -/
def wordOperandOpcodes : List Byte := [0x01#8, 0x11#8, 0x21#8, 0x31#8, 0x08#8, 0xC2#8, 0xC3#8, 0xC4#8, 0xCA#8, 0xCC#8,
  0xCD#8, 0xD2#8, 0xD4#8, 0xDA#8, 0xDC#8, 0xEA#8, 0xFA#8]

/-- The plain opcodes with an 8-bit operand. -/
def byteOperandOpcodes : List Byte := [0x06#8, 0x0E#8, 0x16#8, 0x1E#8, 0x26#8, 0x2E#8, 0x36#8, 0x3E#8, 0x10#8, 0x18#8,
  0x20#8, 0x28#8, 0x30#8, 0x38#8, 0xC6#8, 0xCE#8, 0xD6#8, 0xDE#8, 0xE6#8, 0xEE#8, 0xF6#8, 0xFE#8, 0xE0#8, 0xF0#8, 0xE8#8,
  0xF8#8]

/-- The table's lengths, by table and opcode. -/
theorem Instr.length_eq (i : Instr) : i.length = if i.row.prefixed then 2 else
    if i.row.opcode ∈ wordOperandOpcodes then 3 else if i.row.opcode ∈ byteOperandOpcodes then 2 else 1 := by
  cases i <;> rfl

/-- Settles O4: rows and variants correspond (`Form.form_instr`), and rows and entries do. -/
theorem decodeAndVariantsAreOneToOne : Obligations.DecodeAndVariantsAreOneToOne := by
  refine ⟨fun _ _ _ => decode_eq_some_iff, fun f _ => ?_, fun f g hf hg h => ?_, fun op i h => ?_, fun op i h => ?_⟩
  · refine ⟨(f.instr.row.opcode, f.instr.row.prefixed), decode_eq_some_iff.mpr ⟨rfl, rfl⟩, fun entry h => ?_⟩
    obtain ⟨hop, hp⟩ := decode_eq_some_iff.mp h
    exact Prod.ext hop.symm hp.symm
  · rw [← Form.form_instr hf, h, Form.form_instr hg]
  · obtain ⟨-, hp⟩ := decode_eq_some_iff.mp h
    rw [i.length_eq, if_pos hp]
  · obtain ⟨rfl, hp⟩ := decode_eq_some_iff.mp h
    rw [i.length_eq, hp]
    rfl

/-! ### The decoder on strings of bytes (R301, R302) -/

section
variable {bytes rest : List Byte} {x : Assembled}

/-- The operand bytes are taken exactly where they stand first. -/
theorem takeOperands_eq_ok_iff {i : Instr} :
    takeOperands i bytes = .ok (x, rest) ↔ x.instr = i ∧ x.wf = true ∧ x.operands ++ rest = bytes := by
  obtain ⟨j, ops⟩ := x
  simp only [Assembled.wf, beq_iff_eq]
  constructor
  · intro h
    unfold takeOperands at h
    split_ifs at h with hlen
    cases h
    exact ⟨rfl, List.length_take_of_le (Nat.le_of_not_lt hlen), List.take_append_drop _ _⟩
  · rintro ⟨rfl, hops, rfl⟩
    simp [takeOperands, ← hops]

theorem decodeAfterOpcode_eq_ok_iff {op : Byte} {p : Bool} :
    decodeAfterOpcode op p bytes = .ok (x, rest) ↔
      decode op p = some x.instr ∧ x.wf = true ∧ x.operands ++ rest = bytes := by
  unfold decodeAfterOpcode
  cases decode op p with
  | none => simp
  | some i => simp [takeOperands_eq_ok_iff, eq_comm (a := i)]

end

/-! What the encoder writes and how the decoder begins, by table. -/

theorem encode_of_prefixed {x : Assembled} (h : x.instr.row.prefixed = true) :
    encode x = 0xCB#8 :: x.instr.row.opcode :: x.operands := by simp [encode, Instr.opcodeBytes, h]
theorem encode_of_plain {x : Assembled} (h : x.instr.row.prefixed = false) :
    encode x = x.instr.row.opcode :: x.operands := by simp [encode, Instr.opcodeBytes, h]

theorem decodeBytes_cons_cb (op : Byte) (bytes : List Byte) :
    decodeBytes (0xCB#8 :: op :: bytes) = decodeAfterOpcode op true bytes := rfl
theorem decodeBytes_cons_of_ne_cb {op : Byte} (h : op ≠ 0xCB#8) (bytes : List Byte) :
    decodeBytes (op :: bytes) = decodeAfterOpcode op false bytes := if_neg h

/-- Settles O2: the opcode bytes lead the decoder to the row's entry, where its operand bytes are taken. -/
theorem decodeOfEncodeIsIdentity : Obligations.DecodeOfEncodeIsIdentity := by
  intro x rest hwf
  obtain ⟨hrow, hne, -⟩ := Laws.Encoding.all x.instr
  cases hp : x.instr.row.prefixed with
  | true =>
    rw [encode_of_prefixed hp, List.cons_append, List.cons_append, decodeBytes_cons_cb, decodeAfterOpcode_eq_ok_iff]
    exact ⟨hp ▸ hrow, hwf, rfl⟩
  | false =>
    rw [encode_of_plain hp, List.cons_append, decodeBytes_cons_of_ne_cb (hne hp), decodeAfterOpcode_eq_ok_iff]
    exact ⟨hp ▸ hrow, hwf, rfl⟩

/-- Settles O3: what the decoder reads stands at the entry that the bytes name, so its row's opcode bytes are those read. -/
theorem encodeOfDecodeIsIdentity : Obligations.EncodeOfDecodeIsIdentity := by
  intro bytes x rest h
  cases bytes with
  | nil => cases h
  | cons op bytes =>
    by_cases hop : op = 0xCB#8
    · subst hop
      cases bytes with
      | nil => cases h
      | cons op bytes =>
        rw [decodeBytes_cons_cb] at h
        obtain ⟨hd, hwf, rfl⟩ := decodeAfterOpcode_eq_ok_iff.mp h
        obtain ⟨rfl, hp⟩ := decode_eq_some_iff.mp hd
        exact ⟨hwf, by rw [encode_of_prefixed hp]; rfl⟩
    · rw [decodeBytes_cons_of_ne_cb hop] at h
      obtain ⟨hd, hwf, rfl⟩ := decodeAfterOpcode_eq_ok_iff.mp h
      obtain ⟨rfl, hp⟩ := decode_eq_some_iff.mp hd
      exact ⟨hwf, by rw [encode_of_plain hp]; rfl⟩

end Sys2Proof
end

section
/-! SUPPORT. The execution engine: operands (R420, R421, R425), the stack (R430, R431), the step in each mode (R410 to R416)
and the direct execute (R402), and O16, O27, O40, O42, O43, O44, O47 and O54. A step of a running core is `exec` at the base
address and then the EI delay; the HALT bug is that base address, one less than PC, for one step. -/

namespace Sys2Proof.Machine

/-! ### Operands and conditions -/

/-- Settles O16: each condition is its row of R425. -/
theorem conditionsAreExactPerName : Obligations.ConditionsAreExactPerName := fun _ => ⟨rfl, rfl, rfl, rfl, rfl⟩

/-- An 8-bit operand's write touches no control item. -/
theorem State.sameControl_setR8 (s : State) (r : R8) (v : Byte) : sameControl s (s.setR8 r v) := by simp [sameControl]

/-- Settles O54: the codes are in the order of R310, and a write is as `State.wroteR8_setR8` says. -/
theorem byteOperandsReadAndWrite : Obligations.ByteOperandsReadAndWrite := fun s =>
  ⟨rfl, fun r v => ⟨s.wroteR8_setR8 r v, s.setR8_f r v _, s.setR8_sp r v _, s.setR8_pc r v _, s.sameControl_setR8 r v⟩⟩

/-! ### The stack -/

/-- A push changes SP and memory alone (R430). -/
theorem State.push16_eq (s : State) (v : Word) :
    s.push16 v = { s with sp := (s.push16 v).sp, mem := (s.push16 v).mem } := rfl

/-- A pop after a push gives the word pushed (R431). -/
theorem State.pop16_push16 (s : State) (v : Word) : (s.push16 v).pop16.1 = v := by
  obtain ⟨hsp, hhi, hlo, -⟩ := s.pushedWord_push16 v
  have hsucc : s.sp - 2 + 1 = s.sp - 1 := by bv_omega
  rw [State.pop16_fst, hsp, hsucc, hhi, hlo, concat16_halves]

/-- Settles O27: what a push leaves, and a pop of it. -/
theorem popAfterPushYieldsTheValue : Obligations.PopAfterPushYieldsTheValue := fun s v =>
  ⟨s.pushedWord_push16 v, s.push16_eq v, concat16_toNat _ _, s.pop16_snd, s.pop16_push16 v,
    by rw [State.pop16_sp, State.push16_sp, BitVec.sub_add_cancel]⟩

/-! ### A step in mode Running (R410 to R412, R415, R416) -/

/-- The EI delay as a case split (R415). -/
theorem finishEiDelay_eq (pending : Bool) (i : Instr) (s : State) : finishEiDelay pending i s =
    if pending = true ∧ i ≠ .di then { s with ime := true, imePending := false } else s := by
  unfold finishEiDelay
  simp only [Bool.and_eq_true, bne_iff_ne]
  rfl

@[simp] theorem finishEiDelay_pc (p : Bool) (i : Instr) (s : State) : (finishEiDelay p i s).pc = s.pc := by
  unfold finishEiDelay; split <;> rfl

/-- DI is exempt from the delay: it clears both itself (R415, R1130). -/
@[simp] theorem finishEiDelay_di (p : Bool) (s : State) : finishEiDelay p .di s = s := by cases p <;> rfl

/-- With no HALT bug the base address is PC. -/
theorem State.toExecute_of_no_haltBug {s : State} (h : s.haltBug = false) : s.toExecute = s := by
  cases s; cases h; rfl

/-- What a fetch decodes to (R411): the byte at PC in the plain table, or after a 0xCB the byte after the base address in
the CB table. -/
theorem State.decode_fetch (s : State) : decode s.fetch.opcode s.fetch.isPrefixed =
    if s.readByte s.pc = 0xCB#8 then decode (s.readByte (s.fetchBase + 1)) true
    else decode (s.readByte s.pc) false := by
  rw [State.fetch_eq]; split <;> rfl

/-- A fetch whose byte at PC is not 0xCB decodes it in the plain table. -/
theorem State.decode_fetch_plain {s : State} {i : Instr} (hne : s.readByte s.pc ≠ 0xCB#8)
    (hd : decode (s.readByte s.pc) false = some i) : decode s.fetch.opcode s.fetch.isPrefixed = some i := by
  rw [State.decode_fetch, if_neg hne, hd]

/-- Settles O40: the fetch decodes to i, and the instruction's answer is `formEffect`'s. -/
theorem stepRunsTheDecodedInstruction : Obligations.StepRunsTheDecodedInstruction := by
  intro s t i base hm hc hplain hcb he
  have hd : decode s.fetch.opcode s.fetch.isPrefixed = some i := by
    rw [State.decode_fetch]
    split_ifs with h
    · exact hcb h
    · exact hplain h
  obtain rfl : formEffect i.form s.toExecute = t := Host.Outcome.next.inj ((exec_effect i _).symm.trans he)
  rw [step_running_decoded hm hc hd, State.afterStep, finishEiDelay_eq]

/-! ### EI's delay (R415) -/

/-- A step with EI pending ends with IME set and nothing pending, but for DI, which clears both itself. -/
theorem State.afterStep_of_imePending {s : State} (i : Instr) (h : s.imePending = true) :
    (s.afterStep i).ime = decide (i ≠ .di) ∧ (s.afterStep i).imePending = false := by
  by_cases hi : i = .di
  · subst hi; rw [State.afterStep, finishEiDelay_di]; exact ⟨rfl, rfl⟩
  · rw [State.afterStep, finishEiDelay_eq, if_pos ⟨h, hi⟩]; exact ⟨(decide_eq_true hi).symm, rfl⟩

/-- Settles O43: 0xFB decodes to EI, and the next step finds it pending. -/
theorem eiTakesEffectAfterTheNextInstruction : Obligations.EiTakesEffectAfterTheNextInstruction := by
  intro s hm hc hb hp hop
  have hei : decode s.fetch.opcode s.fetch.isPrefixed = some .ei :=
    State.decode_fetch_plain (by rw [hop]; decide) (by rw [hop]; rfl)
  have hafter : s.afterStep .ei = { s with imePending := true, pc := s.pc + 1 } := by
    rw [State.afterStep, hp, finishEiDelay_false, State.toExecute_of_no_haltBug hb]; rfl
  refine ⟨_, step_running_decoded hm hc hei, hafter, fun i hd => ?_⟩
  rw [hafter] at hd ⊢
  exact ⟨_, step_running_decoded hm hc hd, State.afterStep_of_imePending i rfl⟩

/-! ### The HALT bug (R416) -/

section
variable {s : State} {i : Instr} (hlen : i.length = 1) (hhalt : i ≠ .halt)
include hlen hhalt

/-- Under the HALT bug an instruction of one byte that transfers no control leaves PC where it was. -/
theorem State.afterStep_pc_of_haltBug (hb : s.haltBug = true) (ht : transfers i.form = false) :
    (s.afterStep i).pc = s.pc := by
  rw [State.afterStep, finishEiDelay_pc, formEffect_pc ht fun h => absurd (Instr.eq_of_form h) hhalt, formLength_form,
    hlen, State.toExecute_pc, State.fetchBase, if_pos hb]
  exact BitVec.sub_add_cancel s.pc 1

/-- An instruction of one byte but HALT keeps mode Running: STOP has two. -/
theorem State.afterStep_mode_of_length_one (hm : s.mode = .running) : (s.afterStep i).mode = .running := by
  have hnhalt : i.form ≠ .halt := fun h => hhalt (Instr.eq_of_form h)
  have hnstop : i.form ≠ .stop := fun h => by
    rw [Instr.eq_of_form h] at hlen; cases hlen
  rw [State.afterStep, finishEiDelay_mode, formEffect_mode, if_neg hnstop, if_neg fun ⟨h, _⟩ => hnhalt h]
  exact hm

end

/-- A step's instruction changes no byte but those it stores to. -/
theorem State.readByte_afterStep {s : State} {i : Instr} {p : Word} (h : p ∉ storeAddrs i.form s.toExecute) :
    (s.afterStep i).readByte p = s.readByte p := by
  obtain ⟨hframe, -⟩ := formEffect_storesOnlyAt i.form s.toExecute
  exact (State.readByte_congr (finishEiDelay_mem _ _ _) p).trans (hframe p h)

/-- Settles O44: PC is where it was, so the second step fetches the same byte, now with no HALT bug. -/
theorem haltBugRunsAOneByteInstructionTwice : Obligations.HaltBugRunsAOneByteInstructionTwice := by
  intro s i hm hc hb hne hd hlen ht hhalt delayed
  have hexec : s.toExecute = { s with pc := s.pc - 1, haltBug := false } := by
    rw [State.toExecute, State.fetchBase, if_pos hb]
  have hpc := State.afterStep_pc_of_haltBug hlen hhalt hb ht
  have hbug : (s.afterStep i).haltBug = false := by
    rw [← Bool.not_eq_true, State.afterStep_haltBug]; exact fun ⟨h, _⟩ => hhalt h
  have hmode := State.afterStep_mode_of_length_one hlen hhalt hm
  have hcalls : (s.afterStep i).calls = [] := by simpa [State.afterStep] using hc
  refine ⟨formEffect i.form s.toExecute, s.afterStep i, hexec ▸ exec_effect i _, finishEiDelay_eq _ _ _,
    step_running_decoded hm hc (State.decode_fetch_plain hne hd), hpc, hbug, hmode, hcalls, fun hstore => ?_⟩
  have hbyte : (s.afterStep i).readByte (s.afterStep i).pc = s.readByte s.pc := by
    rw [hpc]; exact State.readByte_afterStep (hexec ▸ hstore)
  refine ⟨hbyte, formEffect i.form (s.afterStep i), exec_effect i _, ?_⟩
  rw [step_running_decoded hmode hcalls (State.decode_fetch_plain (hbyte ▸ hne) (hbyte ▸ hd)), State.afterStep,
    State.toExecute_of_no_haltBug hbug, finishEiDelay_eq]

/-! ### The direct execute (R402) -/

/-- A direct execute does not leave mode Failed (R102, R1203). -/
theorem modeAfterExecute_of_failed {before : Mode} {r : Report} (after : Mode) (h : before = .failed r) :
    modeAfterExecute before after = .failed r := by rw [h]; rfl

/-- In the other modes a direct execute leaves the instruction's mode. -/
theorem modeAfterExecute_of_ne_failed {before : Mode} (after : Mode) (h : ∀ r, before ≠ .failed r) :
    modeAfterExecute before after = after := by
  cases before with
  | failed r => exact absurd rfl (h r)
  | _ => rfl

/-- Settles O47: the instruction's answer is `formEffect`'s, and the direct execute puts PC and the line back. -/
theorem directExecuteDoesNotCommit : Obligations.DirectExecuteDoesNotCommit := fun s i =>
  have he := exec_effect i { s with irqPending := false }
  ⟨_, he, _, executeCall_next he, rfl, fun _ => modeAfterExecute_of_failed _, modeAfterExecute_of_ne_failed _⟩

/-! ### Wake and interrupt entry, by mode (R1210, R1212) -/

/-- Wake leaves Halted and Stopped (R1212). -/
theorem State.wake_of_idle {s : State} (h : s.mode = .halted ∨ s.mode = .stopped) :
    s.wake = ({ s with mode := .running }, .woken) := by
  obtain h | h := h <;> simp [State.wake, h] <;> rfl

/-- In the other modes wake changes nothing. -/
theorem State.wake_of_not_idle {s : State} (hh : s.mode ≠ .halted) (hs : s.mode ≠ .stopped) :
    s.wake = (s, .notWoken) := by simp [State.wake, hh, hs]

/-- An accessor write never writes the mode (R102). -/
@[simp] theorem State.writeItem_mode (w : ItemWrite) (s : State) : (s.writeItem w).mode = s.mode := by cases w <;> rfl

/-- Only reset leaves mode Failed (R1203). -/
theorem hostCall_keeps_failed {s : State} {r : Report} {c : HostCall} (h : s.mode = .failed r)
    (hc : ∀ pc regs, c ≠ .reset pc regs) : ∃ t reply, hostCall c s = .next (t, reply) ∧ t.mode = .failed r := by
  cases c with
  | step irq => exact ⟨_, _, stepMode_failed (s := { s with irqPending := irq }) _ h, h⟩
  | execute i => exact ⟨_, _, executeCall_next (exec_effect i _), modeAfterExecute_of_failed _ h⟩
  | interrupt k =>
    have hnot : s.takesInterrupt = false := by simp [State.takesInterrupt, h]
    exact ⟨s, .notTaken, congrArg _ (State.interrupt_notTaken k hnot), h⟩
  | wake => exact ⟨s, .notWoken, congrArg _ (State.wake_of_not_idle (by simp [h]) (by simp [h])), h⟩
  | write w => exact ⟨_, _, rfl, (State.writeItem_mode w s).trans h⟩
  | busWrite p v => exact ⟨_, _, rfl, h⟩
  | busChange b => exact ⟨_, _, rfl, h⟩
  | reset pc regs => exact absurd rfl (hc pc regs)

/-! ### The end of a run (R1271) -/

/-- A step in mode Running ends no run. -/
theorem endsRun_stepRunning (s : State) : endsRun (stepRunning s) = false := by
  obtain ⟨i, -, he⟩ | ⟨-, he⟩ := stepRunning_cases s
  · rw [he, executeDecoded_next (exec_effect i s.toExecute)]; rfl
  · rw [he]; rfl

/-- A step ends a run in mode Stopped, and in mode Halted where no call to come may resume the core. -/
theorem endsRun_stepMode (s : State) : endsRun (stepMode s) = true ↔
    s.mode = .stopped ∨ (s.mode = .halted ∧ s.calls.any HostCall.mayResume = false) := by
  cases hm : s.mode with
  | running => simp [stepMode_running _ hm, endsRun_stepRunning]
  | halted => simp [stepMode_halted _ hm, endsRun]
  | stopped => simp [stepMode_stopped _ hm, endsRun]
  | failed r => simp [stepMode_failed _ hm, endsRun]

/-- The calls that may resume a halted core are wake and interrupt entry. -/
theorem HostCall.any_mayResume_eq_false {calls : List HostCall} :
    calls.any HostCall.mayResume = false ↔ .wake ∉ calls ∧ ∀ k, .interrupt k ∉ calls := by
  rw [List.any_eq_false]
  constructor
  · intro h
    exact ⟨fun hw => h _ hw rfl, fun k hk => h _ hk rfl⟩
  · rintro ⟨hwake, hinterrupt⟩ c hc
    cases c with
    | wake => exact absurd hc hwake
    | interrupt k => exact absurd hc (hinterrupt k)
    | _ => exact Bool.false_ne_true

/-- Settles O42: each clause is its lemma above, or the step's in its mode. -/
theorem modesThatDoNothing : Obligations.ModesThatDoNothing := by
  refine ⟨fun s h => stepMode_halted (s := s) _ h, fun s h => stepMode_stopped (s := s) _ h,
    fun s r h => ⟨stepMode_failed (s := s) _ h, fun hc => ?_⟩, fun s => State.wake_of_idle,
    fun s => State.wake_of_not_idle, fun s k hm hi => ?_, fun s k hm => ?_, fun s r c => hostCall_keeps_failed,
    fun s hc => ?_, fun s irq rest hc => ?_⟩
  · rw [step_no_calls hc, stepMode_failed _ h]; rfl
  · rw [State.interrupt_taken k (s.takesInterrupt_iff.mpr ⟨hi, .inr hm⟩)]
    exact ⟨rfl, rfl⟩
  · exact State.interrupt_notTaken k (by simp [State.takesInterrupt, hm])
  · have hop : nextOperation s = stepMode s := by rw [nextOperation, hc]
    simp [State.endsNow, hop, endsRun_stepMode, hc]
  · have hop : nextOperation s = stepMode { s with calls := rest, irqPending := irq } := by
      rw [nextOperation, hc]; rfl
    rw [State.endsNow, hop, endsRun_stepMode, HostCall.any_mayResume_eq_false]

end Sys2Proof.Machine
end

section
/-! SUPPORT. 8-bit arithmetic and logic: O7 to O13. The ALU operations are one instruction per operand form over `alu`, and
INC and DEC of a byte one operand write, so each statement is the result and the flags over the numbers. DAA is the same sum
or difference over the integers; that it makes ADD and SUB decimal is one fact about digits, `bcdByte_mod_hundred`. -/

namespace Sys2Proof

/-! ### Encodings (R323) -/

/-- The decoder answers a variant's instruction at the variant's entry. -/
theorem decode_entry (f : Form) : decode f.entry.opcode f.entry.isPrefixed = some f.instr :=
  decode_eq_some_iff.mpr f.row_instr

/-- The r and (HL) forms of the ALU operations stand from 0x80, by operation and then by operand (R500). -/
theorem decode_aluR8 (op : AluOp) (k : Fin 8) :
    decode (BitVec.ofNat 8 (0x80 + 8 * op.ctorIdx + k.val)) false = some (Form.aluR8 op (R8.ofCode k.val)).instr := by
  have h := decode_entry (.aluR8 op (R8.ofCode k.val))
  rwa [Entry.opcode, Form.entry, R8.ctorIdx_ofCode k.isLt] at h

theorem decode_incR8 (k : Fin 8) :
    decode (BitVec.ofNat 8 (0x04 + 8 * k.val)) false = some (Form.incR8 (R8.ofCode k.val)).instr := by
  have h := decode_entry (.incR8 (R8.ofCode k.val))
  rwa [Entry.opcode, Form.entry, R8.ctorIdx_ofCode k.isLt, Nat.mul_zero, Nat.zero_add, Nat.add_comm] at h

theorem decode_decR8 (k : Fin 8) :
    decode (BitVec.ofNat 8 (0x05 + 8 * k.val)) false = some (Form.decR8 (R8.ofCode k.val)).instr := by
  have h := decode_entry (.decR8 (R8.ofCode k.val))
  rwa [Entry.opcode, Form.entry, R8.ctorIdx_ofCode k.isLt, Nat.mul_zero, Nat.zero_add, Nat.add_comm] at h

end Sys2Proof

namespace Sys2Proof.Machine

/-! ### The ALU operations on A (R500) -/

/-- An ALU operation writes A, the flags and PC alone. -/
theorem aluOnA_eq (op : AluOp) (v : Byte) (len : Nat) (s : State) : aluOnA op v len s = .next { s with
    a := (alu op s.a v s.f.c).1, f := (alu op s.a v s.f.c).2, pc := s.pc + BitVec.ofNat 16 len } := rfl

theorem exec_aluR8 (op : AluOp) (r : R8) (s : State) :
    exec (Form.aluR8 op r).instr s = aluOnA op (s.getR8 r) 1 s := exec_instr rfl s

theorem exec_aluD8 (op : AluOp) (s : State) :
    exec (Form.aluD8 op).instr s = aluOnA op (s.readByte (s.pc + 1)) 2 s := exec_instr rfl s

/-- Settles O7: ADD is the sum with no carry in, ADC with C. -/
theorem addAndAdcSetAccumulatorAndFlags : Obligations.AddAndAdcSetAccumulatorAndFlags := by
  refine ⟨fun k => ⟨decode_aluR8 .add k, decode_aluR8 .adc k⟩, rfl, rfl, fun s withCarry => ?_⟩
  intro op c after
  have halu : ∀ v len, aluOnA op v len s = .next (after v (BitVec.ofNat 16 len)) := fun v len => by
    cases withCarry <;> simp [op, c, after, aluOnA_eq, alu, addBytes_eq]
  exact ⟨fun r => (exec_aluR8 op r s).trans (halu _ 1), (exec_aluD8 op s).trans (halu _ 2)⟩

/-- Settles O8: SUB and CP are the difference with no borrow in, SBC with C, and CP's result is A. -/
theorem subSbcAndCpSetAccumulatorAndFlags : Obligations.SubSbcAndCpSetAccumulatorAndFlags := by
  refine ⟨fun k => ⟨decode_aluR8 .sub k, decode_aluR8 .sbc k, decode_aluR8 .cp k⟩, rfl, rfl, rfl, fun s op hop => ?_⟩
  intro c after
  have halu : ∀ v len, aluOnA op v len s = .next (after v (BitVec.ofNat 16 len)) := fun v len => by
    obtain rfl | rfl | rfl := hop <;> simp [c, after, aluOnA_eq, alu, subBytes_eq]
  exact ⟨fun r => (exec_aluR8 op r s).trans (halu _ 1), (exec_aluD8 op s).trans (halu _ 2)⟩

/-- AND, XOR and OR combine the operands bit by bit; Z is the result's, and H is 1 for AND alone (R530, R535, R540). -/
theorem alu_bitwise {op : AluOp} {combine : Bool → Bool → Bool}
    (hop : op = .and ∧ combine = and ∨ op = .xor ∧ combine = xor ∨ op = .or ∧ combine = or) (a v : Byte) (carry : Bool) :
    ∃ res : Byte, alu op a v carry = (res, ⟨decide (res = 0#8), false, decide (op = .and), false⟩) ∧
      ∀ k, res.getLsbD k = combine (a.getLsbD k) (v.getLsbD k) := by
  obtain ⟨rfl, rfl⟩ | ⟨rfl, rfl⟩ | ⟨rfl, rfl⟩ := hop
  · exact ⟨a &&& v, rfl, fun _ => BitVec.getLsbD_and⟩
  · exact ⟨a ^^^ v, rfl, fun _ => BitVec.getLsbD_xor⟩
  · exact ⟨a ||| v, rfl, fun _ => BitVec.getLsbD_or⟩

/-- Settles O9, by `alu_bitwise`. -/
theorem andXorAndOrSetAccumulatorAndFlags : Obligations.AndXorAndOrSetAccumulatorAndFlags := by
  refine ⟨fun k => ⟨decode_aluR8 .and k, decode_aluR8 .xor k, decode_aluR8 .or k⟩, rfl, rfl, rfl,
    fun s op combine hop => ?_⟩
  intro leaves
  have halu : ∀ v len, ∃ t, aluOnA op v len s = .next t ∧ leaves v (BitVec.ofNat 16 len) t := fun v len => by
    obtain ⟨res, hres, hbits⟩ := alu_bitwise hop s.a v s.f.c
    rw [aluOnA_eq, hres]
    exact ⟨_, rfl, fun k _ => hbits k, rfl⟩
  exact ⟨fun r => exec_aluR8 op r s ▸ halu _ 1, exec_aluD8 op s ▸ halu _ 2⟩

/-! ### INC and DEC of a byte (R550, R555) -/

theorem toNat_and_low_nibble (v : Byte) : (v &&& 0xF#8).toNat = v.toNat % 16 := by
  rw [BitVec.toNat_and]; exact Nat.and_two_pow_sub_one_eq_mod v.toNat 4

/-- A low nibble is compared as a number. -/
theorem low_nibble_beq (v n : Byte) : (v &&& 0xF#8 == n) = decide (v.toNat % 16 = n.toNat) := by
  rw [Bool.eq_iff_iff, beq_iff_eq, decide_eq_true_iff, ← toNat_and_low_nibble, BitVec.toNat_inj]

/-- INC of a byte over the numbers. -/
theorem incByte_eq (v : Byte) (f : Flags) : incByte v f = (BitVec.ofNat 8 (v.toNat + 1),
    ⟨decide (v.toNat = 255), false, decide (v.toNat % 16 = 15), f.c⟩) := by
  have hres : v + 1#8 = BitVec.ofNat 8 (v.toNat + 1) := by simp [BitVec.ofNat_add]
  have hz : (v + 1#8 == 0#8) = decide (v.toNat = 255) := by
    rw [Bool.eq_iff_iff, beq_iff_eq, decide_eq_true_iff]; bv_omega
  rw [incByte, hz, low_nibble_beq, hres]; rfl

/-- DEC of a byte over the numbers. -/
theorem decByte_eq (v : Byte) (f : Flags) : decByte v f = (BitVec.ofInt 8 (v.toNat - 1),
    ⟨decide (v.toNat = 1), true, decide (v.toNat % 16 = 0), f.c⟩) := by
  have hres : v - 1#8 = BitVec.ofInt 8 (v.toNat - 1) := by
    simp [Int.sub_eq_add_neg, BitVec.ofInt_add, BitVec.sub_eq_add_neg]
  have hz : (v - 1#8 == 0#8) = decide (v.toNat = 1) := by
    rw [Bool.eq_iff_iff, beq_iff_eq, decide_eq_true_iff]; bv_omega
  rw [decByte, hz, low_nibble_beq, hres]; rfl

theorem exec_incR8 (r : R8) (s : State) : exec (Form.incR8 r).instr s =
    .next (((s.setF (incByte (s.getR8 r) s.f).2).setR8 r (incByte (s.getR8 r) s.f).1).advance 1) := exec_instr rfl s

theorem exec_decR8 (r : R8) (s : State) : exec (Form.decR8 r).instr s =
    .next (((s.setF (decByte (s.getR8 r) s.f).2).setR8 r (decByte (s.getR8 r) s.f).1).advance 1) := exec_instr rfl s

/-- Settles O10: the frame is that of an 8-bit operand written with the flags (`State.setF_setR8_advance`). -/
theorem incAndDecOfAByte : Obligations.IncAndDecOfAByte := by
  refine ⟨fun k => ⟨decode_incR8 k, decode_decR8 k⟩, fun s r => ⟨⟨_, exec_incR8 r s, ?_⟩, ⟨_, exec_decR8 r s, ?_⟩⟩⟩
  · rw [incByte_eq]; exact State.setF_setR8_advance r _ _ 1 s
  · rw [decByte_eq]; exact State.setF_setR8_advance r _ _ 1 s

/-! ### CPL, SCF and CCF -/

/-- The complement of a byte over the numbers (R565). -/
theorem not_eq_ofNat (v : Byte) : ~~~v = BitVec.ofNat 8 (255 - v.toNat) := by
  apply BitVec.eq_of_toNat_eq
  rw [BitVec.toNat_not, BitVec.toNat_ofNat]
  omega

/-- Settles O13. -/
theorem cplScfAndCcf : Obligations.CplScfAndCcf := by
  refine ⟨rfl, rfl, rfl, fun s => ⟨?_, rfl, rfl⟩⟩
  rw [← not_eq_ofNat]; rfl

/-! ### DAA over the integers (R560) -/

/-- Whether DAA adds 0x60 after an addition: C or a value above 0x99. It is the C that DAA leaves. -/
def daaCarry (a : Byte) (f : Flags) : Bool := f.c || decide (a.toNat > 0x99)

/-- What DAA makes of A after an addition, before it is cut to a byte. -/
def daaSum (a : Byte) (f : Flags) : Nat :=
  a.toNat + (if daaCarry a f then 0x60 else 0) + (if f.h = true ∨ a.toNat % 16 > 9 then 0x06 else 0)

/-- What DAA makes of A after a subtraction, before it is cut to a byte. -/
def daaDifference (a : Byte) (f : Flags) : Int :=
  a.toNat - (if f.c then 0x60 else 0) - (if f.h then 0x06 else 0)

theorem decimalAdjust_of_n_false {f : Flags} (hn : f.n = false) (a : Byte) : decimalAdjust a f =
    (BitVec.ofNat 8 (daaSum a f), ⟨decide (BitVec.ofNat 8 (daaSum a f) = 0#8), false, false, daaCarry a f⟩) := by
  have hres : (decimalAdjust a f).1 = BitVec.ofNat 8 (daaSum a f) := by
    simp only [decimalAdjust, hn, Bool.false_eq_true, if_false, daaSum, daaCarry, Bool.or_eq_true, decide_eq_true_eq,
      toNat_and_low_nibble]
    split_ifs <;> simp [BitVec.ofNat_add]
  have hf : (decimalAdjust a f).2 = ⟨decide ((decimalAdjust a f).1 = 0#8), false, false, daaCarry a f⟩ := by
    simp only [decimalAdjust, hn]; rfl
  rw [← hres, ← hf]

theorem decimalAdjust_of_n_true {f : Flags} (hn : f.n = true) (a : Byte) : decimalAdjust a f =
    (BitVec.ofInt 8 (daaDifference a f), ⟨decide (BitVec.ofInt 8 (daaDifference a f) = 0#8), true, false, f.c⟩) := by
  have hres : (decimalAdjust a f).1 = BitVec.ofInt 8 (daaDifference a f) := by
    simp only [decimalAdjust, hn, if_true, daaDifference]
    split_ifs <;> simp [Int.sub_eq_add_neg, BitVec.ofInt_add, BitVec.sub_eq_add_neg]
  have hf : (decimalAdjust a f).2 = ⟨decide ((decimalAdjust a f).1 = 0#8), true, false, f.c⟩ := by
    simp only [decimalAdjust, hn]; rfl
  rw [← hres, ← hf]

/-- DAA writes A, the flags and PC alone. -/
theorem exec_daa_eq (s : State) : exec .daa s = .next { s with
    a := (decimalAdjust s.a s.f).1, f := (decimalAdjust s.a s.f).2, pc := s.pc + 1 } := rfl

/-- Settles O11, by the operation N names. -/
theorem daaFollowsItsAdjustmentTable : Obligations.DaaFollowsItsAdjustmentTable := by
  refine ⟨rfl, fun s => ?_⟩
  rw [exec_daa_eq]
  cases hn : s.f.n with
  | false => rw [decimalAdjust_of_n_false hn]; rfl
  | true => rw [decimalAdjust_of_n_true hn]; rfl

/-! ### Two decimal digits as a byte -/

theorem exists_digits {n : Nat} (h : n < 100) : ∃ t u, t < 10 ∧ u < 10 ∧ n = 10 * t + u :=
  ⟨n / 10, n % 10, by omega, by omega, by omega⟩

theorem bcdByte_toNat {t u : Nat} (ht : t < 10) (hu : u < 10) : (bcdByte (10 * t + u)).toNat = 16 * t + u := by
  rw [bcdByte, BitVec.toNat_ofNat]; omega

theorem bcdByte_eq_zero_iff {n : Nat} (h : n < 100) : bcdByte n = 0#8 ↔ n = 0 := by
  obtain ⟨t, u, ht, hu, rfl⟩ := exists_digits h
  rw [← BitVec.toNat_inj, bcdByte_toNat ht hu, BitVec.toNat_ofNat]
  omega

/-- Digits read in base 16 are in the order of the numbers. -/
theorem bcdByte_lt_iff {x y : Nat} (hx : x < 100) (hy : y < 100) :
    (bcdByte x).toNat < (bcdByte y).toNat ↔ x < y := by
  obtain ⟨i, j, hi, hj, rfl⟩ := exists_digits hx
  obtain ⟨k, m, hk, hm, rfl⟩ := exists_digits hy
  rw [bcdByte_toNat hi hj, bcdByte_toNat hk hm]
  omega

/-- With digits added column by column, a number of three digits is one that reads 0x9A or more in base 16. -/
theorem hundred_le_iff {p q : Nat} (hq : q < 20) : 100 ≤ 10 * p + q ↔ 0x9A ≤ 16 * p + q := by
  obtain hp | rfl | hp := Nat.lt_trichotomy p 9 <;> omega

/-- A low column of ten or more is carried by adding 6. -/
theorem bcdByte_of_columns {p q : Nat} (hq : q < 20) :
    bcdByte (10 * p + q) = BitVec.ofNat 8 (16 * p + q + if 10 ≤ q then 0x06 else 0) := by
  rw [bcdByte]; congr 1
  split_ifs <;> omega

/-- A hundred is 0xA0 in base 16, which 0x60 takes out of the byte. -/
theorem bcdByte_add_hundred (n : Nat) : bcdByte (n + 100) + 0x60#8 = bcdByte n := by
  apply BitVec.eq_of_toNat_eq
  simp only [bcdByte, BitVec.toNat_add, BitVec.toNat_ofNat]
  omega

/-- The digits modulo 100 of two columns p and q: DAA's two adjustments of what they read in base 16. -/
theorem bcdByte_mod_hundred {p q : Nat} (hq : q < 20) (hn : 10 * p + q < 200) : bcdByte ((10 * p + q) % 100) =
    BitVec.ofNat 8 (16 * p + q + (if 10 ≤ q then 0x06 else 0) + (if 0x9A ≤ 16 * p + q then 0x60 else 0)) := by
  rw [BitVec.ofNat_add, ← bcdByte_of_columns hq]
  simp only [← hundred_le_iff hq]
  split_ifs with h
  · have hmod : (10 * p + q) % 100 + 100 = 10 * p + q := by omega
    rw [← bcdByte_add_hundred, hmod]
  · rw [Nat.mod_eq_of_lt (Nat.not_le.mp h), BitVec.add_zero]

/-! ### DAA after ADD and after SUB, for any bytes -/

theorem daaCarry_addBytes (a v : Byte) :
    daaCarry (addBytes a v false).1 (addBytes a v false).2 = decide (0x9A ≤ a.toNat + v.toNat) := by
  have hcut : a.toNat + v.toNat > 0xFF ∨ (a.toNat + v.toNat) % 2 ^ 8 > 0x99 ↔ 0x9A ≤ a.toNat + v.toNat := by omega
  rw [addBytes_eq, Bool.toNat_false, Nat.add_zero, daaCarry, BitVec.toNat_ofNat, ← Bool.decide_or]
  exact decide_eq_decide.mpr hcut

theorem ofNat_daaSum_addBytes (a v : Byte) :
    BitVec.ofNat 8 (daaSum (addBytes a v false).1 (addBytes a v false).2) = BitVec.ofNat 8 (a.toNat + v.toNat +
      (if 10 ≤ a.toNat % 16 + v.toNat % 16 then 0x06 else 0) + (if 0x9A ≤ a.toNat + v.toNat then 0x60 else 0)) := by
  have hres : (addBytes a v false).1.toNat = (a.toNat + v.toNat) % 2 ^ 8 := BitVec.toNat_ofNat _ _
  have hlow : ((addBytes a v false).2.h = true ∨ (addBytes a v false).1.toNat % 16 > 9) ↔
      10 ≤ a.toNat % 16 + v.toNat % 16 := by
    rw [hres, addBytes_eq, Bool.toNat_false, decide_eq_true_iff]
    omega
  simp only [daaSum, daaCarry_addBytes, hlow, decide_eq_true_eq]
  apply BitVec.eq_of_toNat_eq
  rw [hres, BitVec.toNat_ofNat, BitVec.toNat_ofNat]
  omega

theorem daaDifference_subBytes (a v : Byte) : daaDifference (subBytes a v false).1 (subBytes a v false).2 =
    ((a.toNat : Int) - v.toNat) % 256 -
      (if a.toNat < v.toNat then 0x60 else 0) - (if a.toNat % 16 < v.toNat % 16 then 0x06 else 0) := by
  have hres : ((subBytes a v false).1.toNat : Int) = ((a.toNat : Int) - v.toNat) % 256 := by
    rw [subBytes_eq, BitVec.toNat_ofInt, Bool.toNat_false]
    omega
  rw [daaDifference, hres, subBytes_eq]
  simp

/-! ### Decimal arithmetic -/

section
variable {x y : Nat} (hx : x < 100) (hy : y < 100)
include hx hy

theorem hundred_le_add_iff : 100 ≤ x + y ↔ 0x9A ≤ (bcdByte x).toNat + (bcdByte y).toNat := by
  obtain ⟨i, j, hi, hj, rfl⟩ := exists_digits hx
  obtain ⟨k, m, hk, hm, rfl⟩ := exists_digits hy
  have h := hundred_le_iff (p := i + k) (q := j + m) (by omega)
  rw [bcdByte_toNat hi hj, bcdByte_toNat hk hm]
  omega

/-- The columns of a sum are the sums of the digits. -/
theorem ofNat_daaSum_bcd :
    BitVec.ofNat 8 (daaSum (addBytes (bcdByte x) (bcdByte y) false).1 (addBytes (bcdByte x) (bcdByte y) false).2) =
      bcdByte ((x + y) % 100) := by
  obtain ⟨i, j, hi, hj, rfl⟩ := exists_digits hx
  obtain ⟨k, m, hk, hm, rfl⟩ := exists_digits hy
  have hsum : 10 * i + j + (10 * k + m) = 10 * (i + k) + (j + m) := by omega
  have hhex : 16 * i + j + (16 * k + m) = 16 * (i + k) + (j + m) := by omega
  have hlow : (16 * i + j) % 16 + (16 * k + m) % 16 = j + m := by omega
  rw [ofNat_daaSum_addBytes, bcdByte_toNat hi hj, bcdByte_toNat hk hm, hsum, hhex, hlow,
    bcdByte_mod_hundred (by omega) (by omega)]

/-- The columns of a difference and 100 are the digits' differences, with 10 lent to the low column. -/
theorem ofInt_daaDifference_bcd :
    BitVec.ofInt 8 (daaDifference (subBytes (bcdByte x) (bcdByte y) false).1
      (subBytes (bcdByte x) (bcdByte y) false).2) = bcdByte ((x + 100 - y) % 100) := by
  obtain ⟨i, j, hi, hj, rfl⟩ := exists_digits hx
  obtain ⟨k, m, hk, hm, rfl⟩ := exists_digits hy
  have hdiff : 10 * i + j + 100 - (10 * k + m) = 10 * (i + 9 - k) + (j + 10 - m) := by omega
  have hlow : 10 ≤ j + 10 - m ↔ ¬(16 * i + j) % 16 < (16 * k + m) % 16 := by omega
  have hhigh : 0x9A ≤ 16 * (i + 9 - k) + (j + 10 - m) ↔ ¬16 * i + j < 16 * k + m := by omega
  rw [daaDifference_subBytes, bcdByte_toNat hi hj, bcdByte_toNat hk hm, hdiff,
    bcdByte_mod_hundred (by omega) (by omega)]
  simp only [hlow, hhigh, ite_not]
  apply BitVec.eq_of_toNat_eq
  rw [BitVec.toNat_ofInt, BitVec.toNat_ofNat]
  split_ifs <;> omega

/-- DAA after an addition of digits. -/
theorem decimalAdjust_addBytes_bcd :
    decimalAdjust (addBytes (bcdByte x) (bcdByte y) false).1 (addBytes (bcdByte x) (bcdByte y) false).2 =
      (bcdByte ((x + y) % 100), ⟨decide ((x + y) % 100 = 0), false, false, decide (100 ≤ x + y)⟩) := by
  rw [decimalAdjust_of_n_false rfl]
  simp only [ofNat_daaSum_bcd hx hy, daaCarry_addBytes, hundred_le_add_iff hx hy,
    bcdByte_eq_zero_iff (Nat.mod_lt (x + y) (by decide : 100 > 0))]

/-- DAA after a subtraction of digits. -/
theorem decimalAdjust_subBytes_bcd :
    decimalAdjust (subBytes (bcdByte x) (bcdByte y) false).1 (subBytes (bcdByte x) (bcdByte y) false).2 =
      (bcdByte ((x + 100 - y) % 100), ⟨decide (x = y), true, false, decide (x < y)⟩) := by
  have hzero : (x + 100 - y) % 100 = 0 ↔ x = y := by omega
  have hborrow : (subBytes (bcdByte x) (bcdByte y) false).2.c = decide (x < y) :=
    decide_eq_decide.mpr (bcdByte_lt_iff hx hy)
  rw [decimalAdjust_of_n_true rfl]
  simp only [ofInt_daaDifference_bcd hx hy, hborrow,
    bcdByte_eq_zero_iff (Nat.mod_lt (x + 100 - y) (by decide : 100 > 0)), hzero]

end

/-- An ALU operation on an immediate and then DAA leave in A and the flags the operation's result, adjusted. -/
theorem exec_aluD8_then_daa (op : AluOp) (s : State) : ∃ t u, exec (Form.aluD8 op).instr s = .next t ∧
    exec .daa t = .next u ∧ (u.a, u.f) = decimalAdjust (alu op s.a (s.readByte (s.pc + 1)) s.f.c).1
      (alu op s.a (s.readByte (s.pc + 1)) s.f.c).2 := ⟨_, _, exec_aluD8 op s, exec_daa_eq _, rfl⟩

/-- Settles O12: DAA's adjustment of a sum and of a difference of digits. -/
theorem daaMakesDecimalArithmetic : Obligations.DaaMakesDecimalArithmetic := by
  intro s x y hx hy ha hv
  obtain ⟨t, u, ht, hu, hadd⟩ := exec_aluD8_then_daa .add s
  obtain ⟨t', u', ht', hu', hsub⟩ := exec_aluD8_then_daa .sub s
  rw [ha, hv] at hadd hsub
  obtain ⟨hua, huf⟩ := Prod.mk.inj (hadd.trans (decimalAdjust_addBytes_bcd hx hy))
  obtain ⟨hua', huf'⟩ := Prod.mk.inj (hsub.trans (decimalAdjust_subBytes_bcd hx hy))
  exact ⟨⟨t, u, ht, hu, hua, by rw [huf], by rw [huf]⟩, ⟨t', u', ht', hu', hua', by rw [huf'], by rw [huf']⟩⟩

end Sys2Proof.Machine
end

section
/-! SUPPORT. 16-bit arithmetic: O14 and O15. Each instruction is one sum and one register write, so each statement is the sum
and the carries over the numbers (`addWords_eq`, `addSigned_eq`) and the frame of that write. -/

namespace Sys2Proof

/-! ### Encodings (R311, R323): the pair's code is bits 5 and 4 of the opcode -/

/-- The decoder answers an unprefixed variant's instruction at the number of the variant's entry. -/
theorem decode_of_entry (f : Form) {n : Nat} (hp : f.entry.isPrefixed = false)
    (hn : 64 * f.entry.x + 8 * f.entry.y + f.entry.z = n) : decode (BitVec.ofNat 8 n) false = some f.instr := by
  have h := decode_entry f
  rwa [Entry.opcode, hn, hp] at h

theorem decode_addHLR16 (k : Fin 4) :
    decode (BitVec.ofNat 8 (0x09 + 16 * k.val)) false = some (Form.addHLR16 (R16.ofCode k.val)).instr :=
  decode_of_entry _ rfl (by simp only [Form.entry, R16.ctorIdx_ofCode k.isLt]; omega)

theorem decode_incR16 (k : Fin 4) :
    decode (BitVec.ofNat 8 (0x03 + 16 * k.val)) false = some (Form.incR16 (R16.ofCode k.val)).instr :=
  decode_of_entry _ rfl (by simp only [Form.entry, R16.ctorIdx_ofCode k.isLt]; omega)

theorem decode_decR16 (k : Fin 4) :
    decode (BitVec.ofNat 8 (0x0B + 16 * k.val)) false = some (Form.decR16 (R16.ofCode k.val)).instr :=
  decode_of_entry _ rfl (by simp only [Form.entry, R16.ctorIdx_ofCode k.isLt]; omega)

end Sys2Proof

namespace Sys2Proof.Machine

/-! ### Sums and carries over the numbers -/

/-- A mask of the low bits is a remainder. -/
theorem toNat_and_mask {n : Nat} (v mask : BitVec n) (k : Nat) (h : mask.toNat = 2 ^ k - 1) :
    (v &&& mask).toNat = v.toNat % 2 ^ k := by
  rw [BitVec.toNat_and, h, Nat.and_two_pow_sub_one_eq_mod]

/-- ADD HL,rr (R600): the carries out of bits 11 and 15. -/
theorem addWords_eq (a v : Word) (f : Flags) : addWords a v f = (BitVec.ofNat 16 (a.toNat + v.toNat),
    ⟨f.z, false, decide (a.toNat % 0x1000 + v.toNat % 0x1000 > 0xFFF), decide (a.toNat + v.toNat > 0xFFFF)⟩) := by
  rw [addWords, toNat_and_mask a _ 12 rfl, toNat_and_mask v _ 12 rfl]; rfl

/-- ADD SP,e8 and LD HL,SP+e8 (R630, R930): the signed sum, and the carries of the unsigned sum of the low bytes. -/
theorem addSigned_eq (sp : Word) (u : Byte) : addSigned sp u = (BitVec.ofInt 16 (sp.toNat + u.toInt),
    ⟨false, false, decide (sp.toNat % 16 + u.toNat % 16 > 0xF), decide (sp.toNat % 256 + u.toNat > 0xFF)⟩) := by
  have hsum : sp + sext16 u = BitVec.ofInt 16 (sp.toNat + u.toInt) := by simpa using add_sext16 sp 0 u
  rw [addSigned, hsum, toNat_and_mask sp _ 4 rfl, toNat_and_mask sp _ 8 rfl, toNat_and_low_nibble]; rfl

/-! ### A pair written, and PC advanced -/

@[simp] theorem State.getR16_advance (s : State) (n : Nat) (rr : R16) : (s.advance n).getR16 rr = s.getR16 rr := by
  cases rr <;> rfl

/-- A pair written and PC advanced: what the pair instructions that write no flag leave. -/
theorem State.setR16_advance (rr : R16) (v : Word) (n : Nat) (s : State) :
    let t := (s.setR16 rr v).advance n
    wroteR16 rr v s t ∧ t.f = s.f ∧ t.pc = s.pc + BitVec.ofNat 16 n ∧ sameControl s t := by
  obtain ⟨hv, hpairs, ha, hmem, hdev⟩ := s.wroteR16_setR16 rr v
  have hrr := State.getR16_advance (s.setR16 rr v) n
  exact ⟨⟨(hrr rr).trans hv, fun rr' h => (hrr rr').trans (hpairs rr' h), ha, hmem, hdev⟩, by simp, by simp,
    by simp [sameControl]⟩

/-- HL and the flags written and PC advanced: HL holds the word, and its halves, the flags and PC alone have changed. -/
theorem State.setF_setHL_advance (v : Word) (f : Flags) (n : Nat) (s : State) :
    let t := ((s.setF f).setHL v).advance n
    t.hl = v ∧ t = { s with h := t.h, l := t.l, f := f, pc := s.pc + BitVec.ofNat 16 n } :=
  ⟨(s.setF f).hl_setHL v, rfl⟩

/-- Settles O14: the sum is `addWords_eq`, and the frames are those of HL and of a pair written. -/
theorem sixteenBitAddIncAndDec : Obligations.SixteenBitAddIncAndDec := by
  refine ⟨fun k => ⟨decode_addHLR16 k, decode_incR16 k, decode_decR16 k⟩, fun s rr => ?_⟩
  refine ⟨⟨_, exec_instr rfl s, ?_⟩, ⟨_, exec_instr rfl s, ?_⟩, ⟨_, exec_instr rfl s, ?_⟩⟩
  · rw [formEffect, addWords_eq]; exact State.setF_setHL_advance _ _ 1 s
  · rw [formEffect, ofNat_toNat_add]; exact s.setR16_advance rr _ 1
  · rw [formEffect, ofInt_toNat_sub_one]; exact s.setR16_advance rr _ 1

/-- Settles O15: SP and HL take the same sum and flags, `addSigned_eq`. -/
theorem stackPointerPlusSignedByte : Obligations.StackPointerPlusSignedByte := by
  refine ⟨rfl, rfl, fun s => ⟨(exec_instr (f := .addSPe8) rfl s).trans ?_, _, exec_instr (f := .ldHLSPe8) rfl s, ?_⟩⟩
  · rw [formEffect, addSigned_eq]; rfl
  · rw [formEffect, addSigned_eq]; exact State.setF_setHL_advance _ _ 2 s

end Sys2Proof.Machine
end

section
/-! SUPPORT. Control transfer: O17 to O20. Every transfer writes PC once, after at most one push or pop, so each statement is
the target over the numbers and what that push or pop leaves (`State.push16_jumpTo`, `State.pop16_jumpTo`). -/

namespace Sys2Proof

/-! ### Encodings (R313, R318, R323): a condition's code is bits 4 and 3 of the opcode, a vector's number bits 5 to 3 -/

theorem decode_jp_cond (k : Fin 4) :
    decode (BitVec.ofNat 8 (0xC2 + 8 * k.val)) false = some (Form.jp (.cond (Cond.ofCode k.val))).instr :=
  decode_of_entry _ rfl (by simp only [Form.entry, Cond.ctorIdx_ofCode k.isLt]; omega)

theorem decode_jr_cond (k : Fin 4) :
    decode (BitVec.ofNat 8 (0x20 + 8 * k.val)) false = some (Form.jr (.cond (Cond.ofCode k.val))).instr :=
  decode_of_entry _ rfl (by simp only [Form.entry, Cond.ctorIdx_ofCode k.isLt]; omega)

theorem decode_call_cond (k : Fin 4) :
    decode (BitVec.ofNat 8 (0xC4 + 8 * k.val)) false = some (Form.call (.cond (Cond.ofCode k.val))).instr :=
  decode_of_entry _ rfl (by simp only [Form.entry, Cond.ctorIdx_ofCode k.isLt]; omega)

theorem decode_retCC (k : Fin 4) :
    decode (BitVec.ofNat 8 (0xC0 + 8 * k.val)) false = some (Form.retCC (Cond.ofCode k.val)).instr :=
  decode_of_entry _ rfl (by simp only [Form.entry, Cond.ctorIdx_ofCode k.isLt]; omega)

theorem decode_rst (n : Fin 8) :
    decode (BitVec.ofNat 8 (0xC7 + 8 * n.val)) false = some (Form.rst n).instr :=
  decode_of_entry _ rfl (by simp only [Form.entry]; omega)

end Sys2Proof

namespace Sys2Proof.Machine

/-! ### Jumps (R700 to R721) -/

/-- A jump that depends on a condition writes PC alone, taken or not. -/
theorem State.jumpTo_or_advance (s : State) (taken : Bool) (target : Word) (n : Nat) :
    (if taken then s.jumpTo target else s.advance n) =
      { s with pc := if taken then target else s.pc + BitVec.ofNat 16 n } := by
  cases taken <;> rfl

/-- Settles O17: the target is the 16-bit immediate as a number, `State.imm16_eq`. -/
theorem absoluteJumps : Obligations.AbsoluteJumps := by
  refine ⟨decode_jp_cond, rfl, rfl, fun s => ⟨fun t => (exec_instr rfl s).trans ?_, exec_instr (f := .jpHL) rfl s⟩⟩
  rw [formEffect, State.jumpTo_or_advance, State.imm16_eq, ofNat_toNat_add]

/-- Settles O18: the target is the signed sum `add_sext16`. -/
theorem relativeJumps : Obligations.RelativeJumps := by
  refine ⟨decode_jr_cond, rfl, fun s t => (exec_instr rfl s).trans ?_⟩
  have htarget : s.pc + 2 + sext16 s.imm8 = BitVec.ofInt 16 (s.pc.toNat + 2 + (s.readByte (s.pc + 1)).toInt) :=
    add_sext16 s.pc 2 s.imm8
  rw [formEffect, State.jumpTo_or_advance, htarget, ofNat_toNat_add]

/-! ### Calls and restarts (R730, R731, R760) -/

/-- A word pushed and a jump: the push as R430 says, the target, and SP, PC and memory alone have changed. -/
theorem State.push16_jumpTo (s : State) (v target : Word) :
    let u := (s.push16 v).jumpTo target
    pushedWord v s u ∧ u.pc = target ∧ u = { s with sp := u.sp, pc := u.pc, mem := u.mem } := by
  refine ⟨pushedWord_congr (s.pushedWord_push16 v) rfl rfl, rfl, ?_⟩
  rw [s.push16_eq v]; rfl

/-- Settles O19: a call taken and a restart are one push and a jump, a call not taken a move of PC. -/
theorem callsAndRestarts : Obligations.CallsAndRestarts := by
  refine ⟨decode_call_cond, rfl, decode_rst, fun s => ⟨fun t ht => ⟨_, exec_instr rfl s, ?_⟩,
    fun t ht => (exec_instr rfl s).trans ?_, fun n => ⟨_, exec_instr rfl s, ?_⟩⟩⟩
  · rw [formEffect, if_pos ht, ofNat_toNat_add, ← State.imm16_eq]; exact s.push16_jumpTo _ _
  · rw [formEffect, ht]; rfl
  · rw [formEffect, ofNat_toNat_add]; exact s.push16_jumpTo _ _

/-! ### Returns (R740, R741, R750) -/

/-- A word popped into PC: the little-endian word at SP, and SP and PC alone have changed. -/
theorem State.pop16_jumpTo (s : State) : s.pop16.2.jumpTo s.pop16.1 = { s with
    sp := s.sp + 2
    pc := BitVec.ofNat 16 ((s.readByte (s.sp + 1)).toNat * 256 + (s.readByte s.sp).toNat) } := by
  rw [State.pop16_snd, State.pop16_fst, concat16_eq]; rfl

/-- Settles O20: each return taken is `State.pop16_jumpTo`. -/
theorem returns : Obligations.Returns := by
  refine ⟨decode_retCC, rfl, rfl, fun s => ⟨fun cc => (exec_instr rfl s).trans ?_,
    (exec_instr (f := .ret) rfl s).trans ?_, (exec_instr (f := .reti) rfl s).trans ?_⟩⟩
  · rw [formEffect, State.pop16_jumpTo]; rfl
  · rw [formEffect, State.pop16_jumpTo]
  · rw [formEffect, State.pop16_jumpTo]; rfl

end Sys2Proof.Machine
end

section
/-! SUPPORT. 8-bit loads: O21 to O24. Every load is one operand written or one byte stored, and then PC, so each statement is
the address over the numbers and the frame of that write (`State.setR8_advance_frame`, `State.writeByte_advance`); (HL+) and
(HL-) add the step of HL. -/

namespace Sys2Proof

/-! ### Encodings (R310, R323): the destination's code is bits 5 to 3 of the opcode, a source's bits 2 to 0 -/

theorem decode_ldR8R8 (y z : Fin 8) : decode (BitVec.ofNat 8 (0x40 + 8 * y.val + z.val)) false =
    some (Form.ldR8R8 (R8.ofCode y.val) (R8.ofCode z.val)).instr :=
  decode_of_entry _ rfl (by simp only [Form.entry, R8.ctorIdx_ofCode y.isLt, R8.ctorIdx_ofCode z.isLt])

theorem decode_ldR8D8 (y : Fin 8) :
    decode (BitVec.ofNat 8 (0x06 + 8 * y.val)) false = some (Form.ldR8D8 (R8.ofCode y.val)).instr :=
  decode_of_entry _ rfl (by simp only [Form.entry, R8.ctorIdx_ofCode y.isLt]; omega)

/-- The slot of LD (HL),(HL) is HALT (R340). -/
theorem Form.instr_ldR8R8_hlInd : (Form.ldR8R8 .hlInd .hlInd).instr = .halt := rfl

end Sys2Proof

namespace Sys2Proof.Machine

/-! ### A register or (HL) from an operand (R800 to R806) -/

/-- An 8-bit operand written and PC advanced: what the byte instructions that write no flag leave. -/
theorem State.setR8_advance_frame (s : State) (r : R8) (v : Byte) (n : Nat) :
    let t := (s.setR8 r v).advance n
    wroteR8 r v s t ∧ t.f = s.f ∧ t.pc = s.pc + BitVec.ofNat 16 n ∧ t.sp = s.sp ∧ sameControl s t := by
  rw [State.setR8_advance]; exact State.setF_setR8_advance r s.f v n s

/-- Settles O21: the frame is that of an 8-bit operand written, and the source is read before it. -/
theorem registerMoves : Obligations.RegisterMoves := by
  refine ⟨fun y z => ?_,
    fun s dst src hwf => ⟨_, exec_instr hwf s, s.setR8_advance_frame dst (s.getR8 src) 1⟩⟩
  rw [decode_ldR8R8]
  split_ifs with h
  · obtain ⟨rfl, rfl⟩ := h
    exact congrArg some Form.instr_ldR8R8_hlInd
  · rfl

/-- Settles O22: the same frame, the operand being the byte at pc + 1. -/
theorem immediateByteLoads : Obligations.ImmediateByteLoads :=
  ⟨decode_ldR8D8, fun s dst => ⟨_, exec_instr rfl s, s.setR8_advance_frame dst s.imm8 2⟩⟩

/-! ### A from and to the byte at a pair (R810 to R818) -/

/-- A byte stored and PC advanced: the byte, no other byte of memory, and memory and PC alone have changed. -/
theorem State.writeByte_advance (s : State) (p : Word) (v : Byte) (n : Nat) :
    let t := (s.writeByte p v).advance n
    t.readByte p = v ∧ sameMemoryExcept [p] s t ∧ t = { s with mem := t.mem, pc := s.pc + BitVec.ofNat 16 n } :=
  have ⟨hread, hother⟩ := sameMemoryExcept_of_write (s := s) (t := (s.writeByte p v).advance n) rfl
  ⟨hread, hother, rfl⟩

/-- (HL+) leaves HL one more, modulo 65536 (R314). -/
theorem State.hl_afterMem_hlInc (s : State) : (s.afterMem .hlInc).hl = BitVec.ofNat 16 (s.hl.toNat + 1) := by
  rw [ofNat_toNat_add]; exact s.hl_setHL _

/-- (HL-) leaves HL one less, modulo 65536 (R314). -/
theorem State.hl_afterMem_hlDec (s : State) : (s.afterMem .hlDec).hl = BitVec.ofInt 16 (s.hl.toNat - 1) := by
  rw [ofInt_toNat_sub_one]; exact s.hl_setHL _

/-- Settles O23: a load or a store at the pair's address, and HL's step where the pair has one. -/
theorem accumulatorThroughPairs : Obligations.AccumulatorThroughPairs := by
  refine ⟨rfl, rfl, rfl, rfl, rfl, rfl, rfl, rfl, fun s => ?_⟩
  obtain ⟨hread, hother, -⟩ := s.writeByte_advance s.hl s.a 1
  exact ⟨exec_instr (f := .ldAM .bc) rfl s, exec_instr (f := .ldAM .de) rfl s,
    ⟨_, exec_instr (f := .ldAM .hlInc) rfl s, (s.setA _).hl_afterMem_hlInc, rfl⟩,
    ⟨_, exec_instr (f := .ldAM .hlDec) rfl s, (s.setA _).hl_afterMem_hlDec, rfl⟩,
    ⟨_, exec_instr (f := .ldMA .bc) rfl s, s.writeByte_advance s.bc s.a 1⟩,
    ⟨_, exec_instr (f := .ldMA .de) rfl s, s.writeByte_advance s.de s.a 1⟩,
    ⟨_, exec_instr (f := .ldMA .hlInc) rfl s, hread, hother, (s.writeByte s.hl s.a).hl_afterMem_hlInc, rfl⟩,
    ⟨_, exec_instr (f := .ldMA .hlDec) rfl s, hread, hother, (s.writeByte s.hl s.a).hl_afterMem_hlDec, rfl⟩⟩

/-! ### A from and to an absolute or a high-page address (R820 to R828) -/

/-- Settles O24: the addresses over the numbers are `State.imm16_eq` and `highPage_eq`. -/
theorem absoluteAndHighPageMoves : Obligations.AbsoluteAndHighPageMoves := by
  refine ⟨rfl, rfl, rfl, rfl, rfl, rfl, fun s => ?_⟩
  intro a16 a8 atC loads stores
  have ha16 : s.imm16 = a16 := s.imm16_eq
  have ha8 : highPage s.imm8 = a8 := highPage_eq s.imm8
  have hatC : highPage s.c = atC := highPage_eq s.c
  rw [← ha16, ← ha8, ← hatC]
  exact ⟨exec_instr (f := .ldAA16) rfl s, ⟨_, exec_instr (f := .ldA16A) rfl s, s.writeByte_advance _ s.a 3⟩,
    exec_instr (f := .ldhAA8) rfl s, ⟨_, exec_instr (f := .ldhA8A) rfl s, s.writeByte_advance _ s.a 2⟩,
    exec_instr (f := .ldhAC) rfl s, ⟨_, exec_instr (f := .ldhCA) rfl s, s.writeByte_advance _ s.a 1⟩⟩

end Sys2Proof.Machine
end

section
/-! SUPPORT. 16-bit loads and the stack: O25, O26. A pair loaded is one register write, SP stored is two bytes written
(`State.writeWord_advance`), and PUSH and POP are one stack operation and then PC: a push is `State.push16_advance`, a
pop writes the two bytes at SP to the pair's halves (`exec_pop`). -/

namespace Sys2Proof

/-! ### Encodings (R311, R312, R323): the pair's code is bits 5 and 4 of the opcode -/

theorem decode_ldR16D16 (k : Fin 4) :
    decode (BitVec.ofNat 8 (0x01 + 16 * k.val)) false = some (Form.ldR16D16 (R16.ofCode k.val)).instr :=
  decode_of_entry _ rfl (by simp only [Form.entry, R16.ctorIdx_ofCode k.isLt]; omega)

theorem decode_push (k : Fin 4) :
    decode (BitVec.ofNat 8 (0xC5 + 16 * k.val)) false = some (Form.push (R16stk.ofCode k.val)).instr :=
  decode_of_entry _ rfl (by simp only [Form.entry, R16stk.ctorIdx_ofCode k.isLt]; omega)

theorem decode_pop (k : Fin 4) :
    decode (BitVec.ofNat 8 (0xC1 + 16 * k.val)) false = some (Form.pop (R16stk.ofCode k.val)).instr :=
  decode_of_entry _ rfl (by simp only [Form.entry, R16stk.ctorIdx_ofCode k.isLt]; omega)

end Sys2Proof

namespace Sys2Proof.Machine

/-! ### 16-bit loads (R900, R910, R920) -/

/-- A word stored and PC advanced: the low byte at the address, the high byte at the next, no other byte of memory, and
memory and PC alone have changed. -/
theorem State.writeWord_advance (s : State) (p v : Word) (n : Nat) :
    let t := (s.writeWord p v).advance n
    t.readByte p = loByte v ∧ t.readByte (p + 1) = hiByte v ∧ sameMemoryExcept [p, p + 1] s t ∧
      t = { s with mem := t.mem, pc := s.pc + BitVec.ofNat 16 n } := by
  have hne : p ≠ p + 1 := by bv_omega
  obtain ⟨hframe, -⟩ := storesOnlyAt_of_writeWord (s := s) (t := (s.writeWord p v).advance n) rfl
  refine ⟨?_, ?_, hframe, rfl⟩
  · rw [State.readByte_advance, State.writeWord_eq, State.readByte_writeByte, if_neg hne, State.readByte_writeByte_self]
  · rw [State.readByte_advance, State.writeWord_eq, State.readByte_writeByte_self]

/-- Settles O25: the immediate over the numbers is `State.imm16_eq`. -/
theorem sixteenBitLoads : Obligations.SixteenBitLoads := by
  refine ⟨decode_ldR16D16, rfl, rfl, fun s => ?_⟩
  intro n16
  have hn16 : s.imm16 = n16 := s.imm16_eq
  rw [← hn16]
  exact ⟨fun rr => ⟨_, exec_instr rfl s, s.setR16_advance rr s.imm16 3⟩,
    ⟨_, exec_instr (f := .ldA16SP) rfl s, s.writeWord_advance s.imm16 s.sp 3⟩, exec_instr (f := .ldSPHL) rfl s⟩

/-! ### The stack (R940 to R951) -/

/-- A word pushed and PC advanced: the push as R430 says, and SP, memory and PC alone have changed. -/
theorem State.push16_advance (s : State) (v : Word) (n : Nat) :
    let t := (s.push16 v).advance n
    pushedWord v s t ∧ t = { s with sp := t.sp, mem := t.mem, pc := s.pc + BitVec.ofNat 16 n } :=
  ⟨pushedWord_congr (s.pushedWord_push16 v) rfl rfl, by rw [s.push16_eq v]; rfl⟩

/-! A pair written from its halves. -/

section
variable (s : State) (hi lo : Byte)

theorem State.setBC_concat16 : s.setBC (concat16 hi lo) = { s with b := hi, c := lo } := by
  rw [State.setBC, hiByte_concat16, loByte_concat16]

theorem State.setDE_concat16 : s.setDE (concat16 hi lo) = { s with d := hi, e := lo } := by
  rw [State.setDE, hiByte_concat16, loByte_concat16]

theorem State.setHL_concat16 : s.setHL (concat16 hi lo) = { s with h := hi, l := lo } := by
  rw [State.setHL, hiByte_concat16, loByte_concat16]

theorem State.setAF_concat16 : s.setAF (concat16 hi lo) = { s with a := hi, f := Flags.ofByte lo } := by
  rw [State.setAF, hiByte_concat16, loByte_concat16]

end

/-- POP moves SP past the word there, and writes that word to the pair (R431, R950, R951). -/
theorem exec_pop (rr : R16stk) (s : State) : exec (Form.pop rr).instr s =
    .next ((({ s with sp := s.sp + 2 } : State).setR16stk rr
      (concat16 (s.readByte (s.sp + 1)) (s.readByte s.sp))).advance 1) := by
  rw [exec_instr rfl, formEffect, State.pop16_fst, State.pop16_snd]

/-- Settles O26: a push is `State.push16_advance`, AF's low half being the flags byte; a pop is `exec_pop`. -/
theorem pushAndPop : Obligations.PushAndPop := by
  refine ⟨fun k => ⟨decode_push k, decode_pop k⟩, fun s => ?_⟩
  intro lo hi popped
  have hpush (rr : R16stk) := s.push16_advance (s.getR16stk rr) 1
  obtain ⟨⟨-, hhi, hlo, -⟩, -⟩ := hpush .af
  have ha : hiByte s.af = s.a := hiByte_concat16 _ _
  have hf : loByte s.af = s.f.toByte := loByte_concat16 _ _
  refine ⟨fun rr => ⟨_, exec_instr rfl s, hpush rr⟩, ⟨_, exec_instr (f := .push .af) rfl s, hhi.trans ha, ?_⟩,
    (exec_pop .bc s).trans ?_, (exec_pop .de s).trans ?_, (exec_pop .hl s).trans ?_, (exec_pop .af s).trans ?_⟩
  · rw [← s.f.toByte_toNat]; exact congrArg BitVec.toNat (hlo.trans hf)
  · rw [State.setR16stk, State.setBC_concat16]; rfl
  · rw [State.setR16stk, State.setDE_concat16]; rfl
  · rw [State.setR16stk, State.setHL_concat16]; rfl
  · rw [State.setR16stk, State.setAF_concat16]; rfl

end Sys2Proof.Machine
end

section
/-! SUPPORT. Rotates, shifts and bits: O28 to O31. Every rotate and shift but SWAP moves the byte one place and lets one bit
in, as RL and RR do with C, so its bits are those of RL or RR with another bit for C; RES and SET combine the operand with
the byte of one bit (`getLsbD_bitMask`). An (HL) or register form is then one operand write, and PC. -/

namespace Sys2Proof

/-! ### Encodings (R316, R317, R324): in the CB table the operation or the bit is bits 5 to 3, the operand's code bits 2 to 0 -/

/-- The decoder answers a CB variant's instruction at the number of the variant's entry. -/
theorem decode_of_cbEntry (f : Form) {n : Nat} (hp : f.entry.isPrefixed = true)
    (hn : 64 * f.entry.x + 8 * f.entry.y + f.entry.z = n) : decode (BitVec.ofNat 8 n) true = some f.instr := by
  have h := decode_entry f
  rwa [Entry.opcode, hn, hp] at h

theorem decode_rot (op : RotOp) (k : Fin 8) {n : Nat} (hn : 8 * op.ctorIdx + k.val = n) :
    decode (BitVec.ofNat 8 n) true = some (Form.rot op (R8.ofCode k.val)).instr :=
  decode_of_cbEntry _ rfl (by simp only [Form.entry, R8.ctorIdx_ofCode k.isLt]; omega)

theorem decode_testBit (b k : Fin 8) :
    decode (BitVec.ofNat 8 (0x40 + 8 * b.val + k.val)) true = some (Form.testBit b (R8.ofCode k.val)).instr :=
  decode_of_cbEntry _ rfl (by simp only [Form.entry, R8.ctorIdx_ofCode k.isLt])

theorem decode_resetBit (b k : Fin 8) :
    decode (BitVec.ofNat 8 (0x80 + 8 * b.val + k.val)) true = some (Form.resetBit b (R8.ofCode k.val)).instr :=
  decode_of_cbEntry _ rfl (by simp only [Form.entry, R8.ctorIdx_ofCode k.isLt])

theorem decode_setBit (b k : Fin 8) :
    decode (BitVec.ofNat 8 (0xC0 + 8 * b.val + k.val)) true = some (Form.setBit b (R8.ofCode k.val)).instr :=
  decode_of_cbEntry _ rfl (by simp only [Form.entry, R8.ctorIdx_ofCode k.isLt])

end Sys2Proof

namespace Sys2Proof.Machine

/-! ### The bits of a rotated or shifted byte -/

theorem getLsbD_bitByte (b : Bool) (k : Nat) : (bitByte b).getLsbD k = (decide (k = 0) && b) := by
  rw [bitByte, BitVec.getLsbD_setWidth, BitVec.getLsbD_ofBool]
  by_cases hk : k = 0 <;> simp [hk]

section
variable (v : Byte) (carry : Bool)

/-- RL lets C in at bit 0. -/
theorem getLsbD_rotate_rl (k : Nat) (hk : k < 8) :
    (rotate .rl v carry).1.getLsbD k = if k = 0 then carry else v.getLsbD (k - 1) := by
  rw [rotate, BitVec.getLsbD_or, BitVec.getLsbD_shiftLeft, getLsbD_bitByte]
  by_cases h0 : k = 0 <;> simp [h0, hk]

/-- RR lets C in at bit 7. -/
theorem getLsbD_rotate_rr (k : Nat) (hk : k < 8) :
    (rotate .rr v carry).1.getLsbD k = if k = 7 then carry else v.getLsbD (k + 1) := by
  rw [rotate, BitVec.getLsbD_or, BitVec.getLsbD_ushiftRight, BitVec.getLsbD_shiftLeft, getLsbD_bitByte, Nat.add_comm]
  obtain rfl | h7 : k = 7 ∨ k < 7 := by omega
  · simp
  · simp [h7, h7.ne]

/-- SWAP exchanges the nibbles. -/
theorem getLsbD_rotate_swap (k : Nat) (hk : k < 8) :
    (rotate .swap v carry).1.getLsbD k = if k < 4 then v.getLsbD (k + 4) else v.getLsbD (k - 4) := by
  rw [rotate, BitVec.getLsbD_or, BitVec.getLsbD_shiftLeft, BitVec.getLsbD_ushiftRight, Nat.add_comm]
  by_cases h4 : k < 4
  · simp [h4]
  · simp [h4, hk, BitVec.getLsbD_of_ge v (k + 4) (by omega)]

/-! The others are RL or RR with another bit let in. -/

theorem ushiftRight_seven : v >>> 7 = bitByte (v.getLsbD 7) := by revert v; decide
theorem shiftLeft_seven : v <<< 7 = bitByte (v.getLsbD 0) <<< 7 := by revert v; decide
theorem and_bit_seven : v &&& 0x80#8 = bitByte (v.getLsbD 7) <<< 7 := by revert v; decide

theorem rotate_rlc : rotate .rlc v carry = rotate .rl v (v.getLsbD 7) :=
  Prod.ext (congrArg (v <<< 1 ||| ·) (ushiftRight_seven v)) rfl
theorem rotate_sla : rotate .sla v carry = rotate .rl v false := Prod.ext BitVec.or_zero.symm rfl
theorem rotate_rrc : rotate .rrc v carry = rotate .rr v (v.getLsbD 0) :=
  Prod.ext (congrArg (v >>> 1 ||| ·) (shiftLeft_seven v)) rfl
theorem rotate_sra : rotate .sra v carry = rotate .rr v (v.getLsbD 7) :=
  Prod.ext (congrArg (v >>> 1 ||| ·) (and_bit_seven v)) rfl
theorem rotate_srl : rotate .srl v carry = rotate .rr v false := Prod.ext BitVec.or_zero.symm rfl

end

/-! ### RLCA, RRCA, RLA and RRA (R1000 to R1003) -/

/-- Settles O28: the circular rotates let in the bit that left, RLA and RRA let in C. -/
theorem accumulatorRotates : Obligations.AccumulatorRotates := by
  refine ⟨rfl, rfl, rfl, rfl, fun s => ?_⟩
  intro leaves
  refine ⟨⟨_, exec_instr (f := .rlca) rfl s, ?_, rfl⟩, ⟨_, exec_instr (f := .rrca) rfl s, ?_, rfl⟩,
    ⟨_, exec_instr (f := .rla) rfl s, getLsbD_rotate_rl s.a s.f.c, rfl⟩,
    ⟨_, exec_instr (f := .rra) rfl s, getLsbD_rotate_rr s.a s.f.c, rfl⟩⟩
  · rw [formEffect, rotate_rlc]; exact getLsbD_rotate_rl s.a _
  · rw [formEffect, rotate_rrc]; exact getLsbD_rotate_rr s.a _

/-! ### Rotates and shifts of a register or (HL) (R1010 to R1025) -/

/-- A CB rotate or shift, known by its bits and the bit that left, writes its operand and the flags: Z the result's, N and
H zero, C the bit that left. -/
theorem exec_rot_of_bits {op : RotOp} {r : R8} {s : State} {x : Byte × Bool} {bits : Nat → Bool}
    (hx : rotate op (s.getR8 r) s.f.c = x) (hbits : ∀ k, k < 8 → x.1.getLsbD k = bits k) :
    ∃ t res, exec (Form.rot op r).instr s = .next t ∧ (∀ k, k < 8 → res.getLsbD k = bits k) ∧ wroteR8 r res s t ∧
      t.f = ⟨decide (res = 0#8), false, false, x.2⟩ ∧ t.pc = s.pc + 2 ∧ t.sp = s.sp ∧ sameControl s t := by
  refine ⟨_, x.1, exec_instr rfl s, hbits, ?_⟩
  rw [formEffect, hx, State.setR8_setF_advance]
  exact State.setF_setR8_advance r _ x.1 2 s

/-- Settles O29: RLC and RRC let in the bit that left, RL and RR let in C. -/
theorem byteRotates : Obligations.ByteRotates := by
  refine ⟨fun k => ⟨decode_rot .rlc k (Nat.zero_add _), decode_rot .rrc k rfl, decode_rot .rl k rfl,
    decode_rot .rr k rfl⟩, fun s r => ?_⟩
  intro v leaves
  exact ⟨exec_rot_of_bits (rotate_rlc v _) (getLsbD_rotate_rl v _),
    exec_rot_of_bits (rotate_rrc v _) (getLsbD_rotate_rr v _),
    exec_rot_of_bits rfl (getLsbD_rotate_rl v _), exec_rot_of_bits rfl (getLsbD_rotate_rr v _)⟩

/-- Settles O30: SLA and SRL let in 0, SRA lets in the sign bit. -/
theorem byteShiftsAndSwap : Obligations.ByteShiftsAndSwap := by
  refine ⟨fun k => ⟨decode_rot .sla k rfl, decode_rot .sra k rfl, decode_rot .swap k rfl, decode_rot .srl k rfl⟩,
    fun s r => ?_⟩
  intro v leaves
  exact ⟨exec_rot_of_bits (rotate_sla v _) (getLsbD_rotate_rl v _),
    exec_rot_of_bits (rotate_sra v _) (getLsbD_rotate_rr v _),
    exec_rot_of_bits rfl (getLsbD_rotate_swap v _), exec_rot_of_bits (rotate_srl v _) (getLsbD_rotate_rr v _)⟩

/-! ### BIT, RES and SET (R1030 to R1035) -/

theorem getLsbD_bitMask (b : Fin 8) (k : Nat) : (bitMask b).getLsbD k = decide (k = b.val) := by
  rw [bitMask, ← BitVec.twoPow_eq, BitVec.getLsbD_twoPow]
  simp [b.isLt, eq_comm]

/-- RES clears its bit and keeps the others. -/
theorem getLsbD_and_not_bitMask (v : Byte) (b : Fin 8) (k : Nat) (hk : k < 8) :
    (v &&& ~~~bitMask b).getLsbD k = if k = b.val then false else v.getLsbD k := by
  rw [BitVec.getLsbD_and, BitVec.getLsbD_not, getLsbD_bitMask]
  by_cases h : k = b.val <;> simp [h, hk]

/-- SET sets its bit and keeps the others. -/
theorem getLsbD_or_bitMask (v : Byte) (b : Fin 8) (k : Nat) (_ : k < 8) :
    (v ||| bitMask b).getLsbD k = if k = b.val then true else v.getLsbD k := by
  rw [BitVec.getLsbD_or, getLsbD_bitMask]
  by_cases h : k = b.val <;> simp [h]

/-- Settles O31: BIT writes the flags and PC alone; RES and SET write their operand (`State.setR8_advance_frame`). -/
theorem bitTestsResetsAndSets : Obligations.BitTestsResetsAndSets := by
  refine ⟨fun b k => ⟨decode_testBit b k, decode_resetBit b k, decode_setBit b k⟩, fun s b r => ?_⟩
  intro leaves
  exact ⟨exec_instr rfl s,
    ⟨_, _, exec_instr rfl s, getLsbD_and_not_bitMask (s.getR8 r) b, s.setR8_advance_frame r _ 2⟩,
    ⟨_, _, exec_instr rfl s, getLsbD_or_bitMask (s.getR8 r) b, s.setR8_advance_frame r _ 2⟩⟩

end Sys2Proof.Machine
end

section
/-! SUPPORT. System instructions, what every instruction does to the control items, and the interrupt line: O32, O33 and O38.
Over any bus an instruction does to the control items what it does over plain RAM, because no rule that writes one of them
reads the bus; so what `formEffect` says of them holds over every bus. -/

namespace Sys2Proof

/-- An instruction is of a well-formed variant exactly where it is the variant's row (R341). -/
theorem Instr.form_eq_iff {i : Instr} {f : Form} (h : f.wf = true) : i.form = f ↔ i = f.instr :=
  ⟨Instr.eq_of_form, fun hi => hi ▸ Form.form_instr h⟩

end Sys2Proof

namespace Sys2Proof.Machine

/-! ### System instructions (R1100 to R1140) -/

/-- HALT halts, but right after EI with an interrupt pending, and where it sets the HALT bug (R1110). -/
theorem exec_halt_of_halts {s : State} (hs : s.haltStays = false) (hb : s.haltBugs = false) :
    exec .halt s = .next { s with mode := .halted, pc := s.pc + 1 } := by
  simp only [exec_halt_effect, formEffect, hs, hb]; rfl

/-- Right after EI with an interrupt pending HALT changes nothing. -/
theorem exec_halt_of_haltStays {s : State} (hs : s.haltStays = true) : exec .halt s = .next s := by
  simp only [exec_halt_effect, formEffect, hs]; rfl

/-- With interrupts off and one pending HALT sets the HALT bug and does not halt (R151). -/
theorem exec_halt_of_haltBugs {s : State} (hs : s.haltStays = false) (hb : s.haltBugs = true) :
    exec .halt s = .next { s with haltBug := true, pc := s.pc + 1 } := by
  simp only [exec_halt_effect, formEffect, hs, hb]; rfl

/-- Settles O32: HALT's four cases are its three outcomes, two of them halting. -/
theorem systemInstructions : Obligations.SystemInstructions := by
  refine ⟨rfl, rfl, rfl, rfl, rfl, fun s => ⟨rfl, fun hi => ?_, fun hi hp hq => ?_, fun hi hp hq => ?_, fun hi hq => ?_,
    rfl, rfl, rfl⟩⟩
  · exact exec_halt_of_halts (by simp [State.haltStays, hi]) (by simp [State.haltBugs, hi])
  · exact exec_halt_of_haltStays (by simp [State.haltStays, hi, hp, hq])
  · exact exec_halt_of_haltBugs (by simp [State.haltStays, hp]) (by simp [State.haltBugs, hi, hp, hq])
  · exact exec_halt_of_halts (by simp [State.haltStays, hq]) (by simp [State.haltBugs, hq])

/-! ### The control items over any bus (R140, R141, R150, R151, R202) -/

/-- The control items and the embedder's two inputs: what no access of a register or of the bus changes. -/
structure ControlItems where
  ime        : Bool
  imePending : Bool
  mode       : Mode
  haltBug    : Bool
  irqPending : Bool
  calls      : List HostCall

/-- The control items a state holds. -/
def State.control (s : State) : ControlItems := ⟨s.ime, s.imePending, s.mode, s.haltBug, s.irqPending, s.calls⟩

@[simp] theorem State.jumpTo_control (s : State) (v : Word) : (s.jumpTo v).control = s.control := rfl
@[simp] theorem State.advance_control (s : State) (n : Nat) : (s.advance n).control = s.control := rfl
@[simp] theorem State.setA_control (s : State) (v : Byte) : (s.setA v).control = s.control := rfl
@[simp] theorem State.setF_control (s : State) (v : Flags) : (s.setF v).control = s.control := rfl
@[simp] theorem State.setSp_control (s : State) (v : Word) : (s.setSp v).control = s.control := rfl
@[simp] theorem State.setHL_control (s : State) (v : Word) : (s.setHL v).control = s.control := rfl
@[simp] theorem State.setBus_control (s : State) (b : BusState) : (s.setBus b).control = s.control := rfl
@[simp] theorem State.writeByte_control (s : State) (p : Word) (v : Byte) (P : Params) :
    (s.writeByte p v P).control = s.control := rfl
@[simp] theorem State.writeWord_control (s : State) (p v : Word) (P : Params) :
    (s.writeWord p v P).control = s.control := by simp [State.writeWord]
@[simp] theorem State.push16_control (s : State) (v : Word) (P : Params) : (s.push16 v P).control = s.control := by
  simp [State.push16]
@[simp] theorem State.pop16_control (s : State) (P : Params) : (s.pop16 P).2.control = s.control := by
  simp [State.pop16]
@[simp] theorem State.setR8_control (s : State) (r : R8) (v : Byte) (P : Params) :
    (s.setR8 r v P).control = s.control := by cases r <;> rfl
@[simp] theorem State.setR16_control (s : State) (rr : R16) (v : Word) : (s.setR16 rr v).control = s.control := by
  cases rr <;> rfl
@[simp] theorem State.setR16stk_control (s : State) (rr : R16stk) (v : Word) :
    (s.setR16stk rr v).control = s.control := by cases rr <;> rfl
@[simp] theorem State.afterMem_control (s : State) (m : R16mem) : (s.afterMem m).control = s.control := by
  cases m <;> rfl
@[simp] theorem State.setMode_control (s : State) (v : Mode) :
    (s.setMode v).control = { s.control with mode := v } := rfl
@[simp] theorem State.setIme_control (s : State) (v : Bool) :
    (s.setIme v).control = { s.control with ime := v } := rfl
@[simp] theorem State.ite_control (p : Prop) [Decidable p] (s t : State) :
    (if p then s else t).control = if p then s.control else t.control := apply_ite _ _ _ _

/-- Over any bus an instruction of a variant completes, and leaves the control items as over plain RAM. -/
theorem execOn_control_form {f : Form} (h : f.wf = true) (P : Params) (s : State) :
    ∃ t, execOn P f.instr s = .next t ∧ t.control = (formEffect f s).control := by
  cases f with
  -- no access of the bus: the same state
  | halt => exact ⟨_, exec_halt_effect s, rfl⟩
  | nop | di | ei | ldSPHL | daa | cpl | scf | ccf | rlca | rrca | rla | rra | jpHL => exact ⟨_, rfl, rfl⟩
  -- beside the bus, registers and PC, and in STOP and RETI one control item, written whatever the bus answers
  | reti => exact ⟨_, rfl, by simp [formEffect, State.returnFromInterrupt]⟩
  | stop | ldAA16 | ldA16A | ldhAA8 | ldhA8A | ldhAC | ldhCA | ldA16SP | ldHLSPe8 | addSPe8 | ret =>
    exact ⟨_, rfl, by simp [formEffect]⟩
  | ldR8R8 dst src => exact ⟨_, exec_form_ldR8R8 dst src h s P, by simp [formEffect]⟩
  | ldR8D8 dst => exact ⟨_, exec_form_ldR8D8 dst s P, by simp [formEffect]⟩
  | ldAM m => exact ⟨_, exec_form_ldAM m s P, by simp [formEffect]⟩
  | ldMA m => exact ⟨_, exec_form_ldMA m s P, by simp [formEffect]⟩
  | ldR16D16 rr => exact ⟨_, exec_form_ldR16D16 rr s P, by simp [formEffect]⟩
  | push rr => exact ⟨_, exec_form_push rr s P, by simp [formEffect]⟩
  | pop rr => exact ⟨_, exec_form_pop rr s P, by simp [formEffect]⟩
  | aluR8 op r => exact ⟨_, exec_form_aluR8 op r s P, by simp [formEffect]⟩
  | aluD8 op => exact ⟨_, exec_form_aluD8 op s P, by simp [formEffect]⟩
  | incR8 r => exact ⟨_, exec_form_incR8 r s P, by simp [formEffect]⟩
  | decR8 r => exact ⟨_, exec_form_decR8 r s P, by simp [formEffect]⟩
  | addHLR16 rr => exact ⟨_, exec_form_addHLR16 rr s P, by simp [formEffect]⟩
  | incR16 rr => exact ⟨_, exec_form_incR16 rr s P, by simp [formEffect]⟩
  | decR16 rr => exact ⟨_, exec_form_decR16 rr s P, by simp [formEffect]⟩
  | rot op r => exact ⟨_, exec_form_rot op r s P, by simp [formEffect]⟩
  | testBit b r => exact ⟨_, exec_form_testBit b r s P, by simp [formEffect]⟩
  | resetBit b r => exact ⟨_, exec_form_resetBit b r s P, by simp [formEffect]⟩
  | setBit b r => exact ⟨_, exec_form_setBit b r s P, by simp [formEffect]⟩
  | jp t => exact ⟨_, exec_form_jp t s P, by simp [formEffect]⟩
  | jr t => exact ⟨_, exec_form_jr t s P, by simp [formEffect]⟩
  | call t => exact ⟨_, exec_form_call t s P, by simp [formEffect]⟩
  | retCC cc => exact ⟨_, exec_form_retCC cc s P, by simp [formEffect]⟩
  | rst n => exact ⟨_, exec_form_rst n s P, by simp [formEffect]⟩

/-- The same for every instruction. -/
theorem execOn_control (P : Params) (i : Instr) (s : State) :
    ∃ t, execOn P i s = .next t ∧ t.control = (formEffect i.form s).control := by
  simpa using execOn_control_form i.wf_form P s

/-- No instruction touches the line (R6, R1213). -/
@[simp] theorem formEffect_irqPending (f : Form) (s : State) : (formEffect f s).irqPending = s.irqPending := by
  cases f with
  | halt | jp t | jr t | call t | retCC cc => simp only [formEffect]; split_ifs <;> simp
  | ldA16SP => simp [formEffect, State.writeWord_eq]
  | _ => simp [formEffect]

/-- Settles O33: over any bus the control items are those of `formEffect`, which are known by variant. -/
theorem everyInstructionCompletes : Obligations.EveryInstructionCompletes := by
  intro i s keeps
  have hform : ∀ {f : Form}, f.wf = true → (i.form = f ↔ i = f.instr) := Instr.form_eq_iff
  have hkeeps : ∀ t : State, t.control = (formEffect i.form s).control → keeps t := by
    intro t h
    obtain ⟨hime, hpending, hmode, hbug, hline, hcalls⟩ := ControlItems.mk.inj h
    refine ⟨hline.trans (formEffect_irqPending _ s), hcalls.trans (formEffect_calls _ s), hime.trans ?_,
      hpending.trans ?_, hmode.trans ?_, hbug.trans ?_⟩
    · exact (formEffect_ime _ s).trans (if_congr (hform rfl) rfl (if_congr (hform rfl) rfl rfl))
    · exact (formEffect_imePending _ s).trans (if_congr (hform rfl) rfl (if_congr (hform rfl) rfl rfl))
    · exact (formEffect_mode _ s).trans
        (if_congr (hform rfl) rfl (if_congr (and_congr_left' (hform rfl)) rfl rfl))
    · exact (formEffect_haltBug _ s).trans (if_congr (and_congr_left' (hform rfl)) rfl rfl)
  refine ⟨⟨_, exec_effect i s, hkeeps _ rfl⟩, execOn_default i s, fun P => ?_⟩
  obtain ⟨t, ht, hcontrol⟩ := execOn_control P i s
  exact ⟨t, ht, hkeeps t hcontrol⟩

/-! ### The line (R6, R1213) -/

/-- The state with the line at a level. -/
def State.setIrqPending (level : Bool) (s : State) : State := { s with irqPending := level }

/-- A write of the line passes by every instruction but HALT. -/
theorem formEffect_setIrqPending {f : Form} (h : f ≠ .halt) (s : State) (level : Bool) :
    formEffect f (s.setIrqPending level) = (formEffect f s).setIrqPending level := by
  cases f with
  | halt => exact absurd rfl h
  -- the operand decides which item is read or written
  | ldR8R8 dst src => cases dst <;> cases src <;> rfl
  | ldR8D8 r | aluR8 _ r | incR8 r | decR8 r | rot _ r | testBit _ r | resetBit _ r | setBit _ r => cases r <;> rfl
  | ldAM m | ldMA m => cases m <;> rfl
  | ldR16D16 rr | addHLR16 rr | incR16 rr | decR16 rr | push rr | pop rr => cases rr <;> rfl
  -- a condition reads the flags alone
  | jp t | jr t | call t | retCC cc =>
    have hf : (s.setIrqPending level).f = s.f := rfl
    simp only [formEffect, hf]; split <;> rfl
  | _ => rfl

/-- Settles O38: the line written before passes by the instruction. -/
theorem onlyHaltReadsTheInterruptLine : Obligations.OnlyHaltReadsTheInterruptLine := by
  intro i s level h
  have hform : i.form ≠ .halt := fun hf => h (Instr.eq_of_form hf)
  exact ⟨formEffect i.form s, exec_effect i s,
    (exec_effect i (s.setIrqPending level)).trans (congrArg _ (formEffect_setIrqPending hform s level))⟩

end Sys2Proof.Machine
end

section
/-! SUPPORT. Decode failures (R418, R1200 to R1203), interrupt entry and RETI (R1210, R1216): O41, O45 and O46. -/

namespace Sys2Proof

/-! ### The decoder's undefined entries (R325, R326, R331) -/

/-- The decoder answers none for an undefined entry and for one not admitted (R331). -/
theorem decodeAdmitting_eq_none_iff {admitted : Bool → Byte → Bool} {op : Byte} {p : Bool} :
    decodeAdmitting admitted op p = none ↔ decode op p = none ∨ admitted p op = false := by
  rw [decodeAdmitting_eq]; cases admitted p op <;> simp

/-- It answers an instruction for a defined entry that is admitted. -/
theorem decodeAdmitting_ne_none_iff {admitted : Bool → Byte → Bool} {op : Byte} {p : Bool} :
    decodeAdmitting admitted op p ≠ none ↔ decode op p ≠ none ∧ admitted p op = true := by
  rw [Ne, decodeAdmitting_eq_none_iff, not_or, Bool.not_eq_false]

/-- The CB table has no undefined entry (R326). -/
theorem decode_prefixed_ne_none (op : Byte) : decode op true ≠ none := by
  simp [unimplementedEntriesAreTheTwelve op true]

end Sys2Proof

namespace Sys2Proof.Machine

/-! ### Decode failures (R418, R1200 to R1203) -/

/-- A step of the core fails to decode: the mode alone changes, to hold the report, and the machine faults. -/
def State.stepFails (P : Params) (report : Report) (s : State) : Prop :=
  stepCall s.irqPending s P = .next ({ s with mode := .failed report }, .decodeFailure report) ∧
    stepOn P s = .fault (.decodeFailure report)

/-- A step of the core runs an instruction. -/
def State.stepRuns (P : Params) (s : State) : Prop :=
  ∃ t, stepCall s.irqPending s P = .next (t, .ok) ∧ stepOn P s = .next t

/-! What the fetch reads, by the byte at PC (R411). -/

theorem State.fetch_of_plain {s : State} (h : s.readByte s.pc ≠ 0xCB#8) : s.fetch = ⟨s.readByte s.pc, s.pc, false⟩ := by
  rw [State.fetch_eq, if_neg h]

theorem State.fetch_of_prefix {s : State} (h : s.readByte s.pc = 0xCB#8) :
    s.fetch = ⟨s.readByte (s.fetchBase + 1), s.fetchBase + 1, true⟩ := by rw [State.fetch_eq, if_pos h]

/-- Over plain RAM the fetch answers the same whatever is admitted, and changes nothing. -/
theorem State.fetchOpcode_of_plainRam {P : Params} (hbus : P.bus = plainRam) (s : State) :
    s.fetchOpcode P = (s.fetch, s) := by
  obtain ⟨_, admitted⟩ := P
  subst hbus
  exact s.fetchOpcode_default

section
variable {P : Params} {s : State} (hbus : P.bus = plainRam) (hm : s.mode = .running) (hc : s.calls = [])
include hbus hm hc

/-- Over plain RAM, whatever is admitted, a fetch that does not decode is a decode failure, reported as fetched. -/
theorem State.stepFails_of_undecoded (hd : decodeAdmitting P.admitted s.fetch.opcode s.fetch.isPrefixed = none) :
    s.stepFails P ⟨s.fetch.opcode, s.fetch.address, s.fetch.isPrefixed⟩ := by
  have hrun := stepMode_running P hm
  simp only [stepRunning, State.fetchOpcode_of_plainRam hbus, hd] at hrun
  exact ⟨hrun, by rw [stepOn_no_calls P hc, hrun]; rfl⟩

/-- A fetch that decodes is executed, and every instruction completes. -/
theorem State.stepRuns_of_decoded (hd : decodeAdmitting P.admitted s.fetch.opcode s.fetch.isPrefixed ≠ none) :
    s.stepRuns P := by
  obtain ⟨i, hd⟩ := Option.ne_none_iff_exists'.mp hd
  obtain ⟨t, ht⟩ := execOn_next P i s.toExecute
  have hrun := stepMode_running P hm
  simp only [stepRunning, State.fetchOpcode_of_plainRam hbus, hd, executeDecoded, ht] at hrun
  exact ⟨_, hrun, by rw [stepOn_no_calls P hc, hrun]; rfl⟩

/-! The two by the first byte: one of the plain table, and 0xCB, after which every byte is a defined entry. -/

theorem State.stepFails_of_plain (hb : s.readByte s.pc ≠ 0xCB#8)
    (hd : decode (s.readByte s.pc) false = none ∨ P.admitted false (s.readByte s.pc) = false) :
    s.stepFails P ⟨s.readByte s.pc, s.pc, false⟩ := by
  have h := State.stepFails_of_undecoded hbus hm hc
  rw [State.fetch_of_plain hb] at h
  exact h (decodeAdmitting_eq_none_iff.mpr hd)

theorem State.stepRuns_of_plain (hb : s.readByte s.pc ≠ 0xCB#8) (hd : decode (s.readByte s.pc) false ≠ none)
    (ha : P.admitted false (s.readByte s.pc) = true) : s.stepRuns P := by
  have h := State.stepRuns_of_decoded hbus hm hc
  rw [State.fetch_of_plain hb] at h
  exact h (decodeAdmitting_ne_none_iff.mpr ⟨hd, ha⟩)

theorem State.stepFails_of_prefix (hb : s.readByte s.pc = 0xCB#8)
    (ha : P.admitted true (s.readByte (s.fetchBase + 1)) = false) :
    s.stepFails P ⟨s.readByte (s.fetchBase + 1), s.fetchBase + 1, true⟩ := by
  have h := State.stepFails_of_undecoded hbus hm hc
  rw [State.fetch_of_prefix hb] at h
  exact h (decodeAdmitting_eq_none_iff.mpr (.inr ha))

theorem State.stepRuns_of_prefix (hb : s.readByte s.pc = 0xCB#8)
    (ha : P.admitted true (s.readByte (s.fetchBase + 1)) = true) : s.stepRuns P := by
  have h := State.stepRuns_of_decoded hbus hm hc
  rw [State.fetch_of_prefix hb] at h
  exact h (decodeAdmitting_ne_none_iff.mpr ⟨decode_prefixed_ne_none _, ha⟩)

end

/-- Settles O41: the bytes of the plain table that decode to nothing are 0xCB, which leads to the CB table, and the eleven. -/
theorem decodeFailureIsExactAndPrecise : Obligations.DecodeFailureIsExactAndPrecise := by
  refine ⟨fun s hm hc => ?_, fun admitted s hm hc => ?_⟩
  · intro illegal report
    have hnone : decode (s.readByte s.pc) false = none ↔ s.readByte s.pc = 0xCB#8 ∨ s.readByte s.pc ∈ illegal := by
      rw [unimplementedEntriesAreTheTwelve, List.mem_cons]; exact and_iff_right rfl
    by_cases hb : s.readByte s.pc = 0xCB#8
    · exact ⟨fun h => absurd (hb ▸ h) (by decide), fun _ => State.stepRuns_of_prefix (P := .default) rfl hm hc hb rfl⟩
    · exact ⟨fun h => State.stepFails_of_plain (P := .default) rfl hm hc hb (.inl (hnone.mpr (.inr h))),
        fun h => State.stepRuns_of_plain (P := .default) rfl hm hc hb (fun hd => (hnone.mp hd).elim hb h) rfl⟩
  · intro P
    exact ⟨fun hb => ⟨State.stepFails_of_plain (P := P) rfl hm hc hb, State.stepRuns_of_plain (P := P) rfl hm hc hb⟩,
      fun hb => ⟨State.stepFails_of_prefix (P := P) rfl hm hc hb, State.stepRuns_of_prefix (P := P) rfl hm hc hb⟩⟩

/-! ### Interrupt entry and return (R1210, R1211, R1216) -/

/-- The vector of source k is 0x0040 + 8 k (R1211). -/
theorem interruptVector_eq (k : Fin 5) : interruptVector k = BitVec.ofNat 16 (0x0040 + 8 * k.val) := by
  revert k; decide

/-- What an interrupt taken leaves on the stack: PC (R1210). -/
theorem State.pushedWord_of_taken {s t : State} {k : Fin 5} (h : s.interrupt k = (t, .taken)) :
    pushedWord s.pc s t := by
  cases htakes : s.takesInterrupt with
  | false => rw [State.interrupt_notTaken k htakes] at h; cases h
  | true =>
    rw [State.interrupt_taken k htakes] at h
    cases h
    exact pushedWord_congr (s.pushedWord_push16 s.pc) rfl rfl

/-- Settles O45: entry is a push of PC, the vector and the control items. -/
theorem interruptEntry : Obligations.InterruptEntry := by
  intro s k
  refine ⟨fun h => State.interrupt_notTaken k ?_, fun hi hm => ?_⟩
  · rw [← Bool.not_eq_true, State.takesInterrupt_iff]
    rintro ⟨hi, hm⟩
    obtain hoff | ⟨hrunning, hhalted⟩ := h
    · rw [hoff] at hi; cases hi
    · exact hm.elim hrunning hhalted
  · have htaken := State.interrupt_taken k (s.takesInterrupt_iff.mpr ⟨hi, hm⟩)
    exact ⟨_, htaken, State.pushedWord_of_taken htaken, interruptVector_eq k, by simp⟩

/-- A pop of a word pushed, from any state with SP and the two bytes as the push left them (R431). -/
theorem State.pop16_of_pushedWord {s t u : State} {v : Word} (h : pushedWord v s t) (hsp : u.sp = t.sp)
    (hlo : u.readByte t.sp = t.readByte t.sp) (hhi : u.readByte (t.sp + 1) = t.readByte (t.sp + 1)) :
    u.pop16.1 = v ∧ u.pop16.2 = { u with sp := s.sp } := by
  obtain ⟨htsp, hthi, htlo, -⟩ := h
  have hsucc : s.sp - 2 + 1 = s.sp - 1 := by bv_omega
  constructor
  · rw [State.pop16_fst, hsp, hlo, hhi, htsp, hsucc, hthi, htlo, concat16_halves]
  · rw [State.pop16_snd, hsp, htsp, BitVec.sub_add_cancel]

/-- Settles O46: RETI pops what entry pushed. -/
theorem retiUndoesInterruptEntry : Obligations.RetiUndoesInterruptEntry := by
  intro s t u k h hsp hlo hhi
  obtain ⟨hpc, hback⟩ := State.pop16_of_pushedWord (State.pushedWord_of_taken h) hsp hlo hhi
  have he := exec_instr (f := .reti) rfl u
  rw [formEffect, hpc, hback] at he
  exact he

end Sys2Proof.Machine
end

section
/-! SUPPORT. The embedder's operations, the run calls, the reference loop and reset: O48, O49, O50 and O58. -/

namespace Sys2Proof.Machine

/-! ### The calls (R1270) -/

/-- Settles O58: `hostCall_keeps_inv`, which is by the call. -/
theorem everyRunCallKeepsTheInvariant : Obligations.EveryRunCallKeepsTheInvariant :=
  fun _ _ _ _ => hostCall_keeps_inv

/-- Settles O48: each clause is a definition's case, or `outcomeOf_next`. -/
theorem embedderCallsAreTheirOperations : Obligations.EmbedderCallsAreTheirOperations := by
  refine ⟨fun s c rest => step_call, fun s => step_no_calls, fun t reply h => outcomeOf_next.mpr ⟨reply, rfl, h⟩,
    fun _ _ => rfl, fun s => ⟨fun _ => rfl, fun _ => rfl, rfl, fun _ => rfl, fun _ _ => rfl, fun _ => rfl, fun _ => rfl,
      fun _ _ => rfl, fun item => ?_, fun v w fl x => ?_⟩⟩
  · cases item <;> exact ⟨rfl, rfl, rfl, rfl⟩
  · exact ⟨rfl, rfl, rfl, rfl, rfl, rfl, rfl, rfl, rfl, rfl, rfl, rfl, rfl⟩

/-! ### Reset (R170, R1300) -/

/-- Settles O50: after reset IME is 0, so no interrupt is taken. -/
theorem resetSetsEveryItem : Obligations.ResetSetsEveryItem :=
  fun _ _ _ => ⟨_, rfl, rfl, rfl, fun k => State.interrupt_notTaken k rfl⟩

/-! ### The reference loop (R1214, R1215) -/

/-- The lowest-numbered source is a requested one with none requested below it (R1214). -/
theorem lowestSource_eq_some {req : BitVec 5} {k : Fin 5} (hk : req.getLsbD k.val = true)
    (hlow : ∀ j : Fin 5, j < k → req.getLsbD j.val = false) : lowestSource req = some k := by
  rw [lowestSource, List.find?_eq_some_iff_getElem]
  refine ⟨hk, k.val, by simp, by simp, fun j hj => ?_⟩
  simpa using hlow ⟨j, hj.trans k.isLt⟩ hj

/-- Clearing a source's request leaves the others (R1215). -/
theorem getLsbD_clear_source (req : BitVec 5) (k j : Fin 5) :
    (req &&& ~~~(1#5 <<< k.val)).getLsbD j.val = (req.getLsbD j.val && decide (j ≠ k)) := by
  rw [BitVec.getLsbD_and, BitVec.getLsbD_not, ← BitVec.twoPow_eq, BitVec.getLsbD_twoPow]
  simp [j.isLt, k.isLt, Fin.ext_iff, eq_comm]

/-- Settles O49: a turn goes by the lowest source, by whether the core takes it, and by mode Halted. -/
theorem referenceLoopTurn : Obligations.ReferenceLoopTurn := by
  intro req s
  refine ⟨?_, fun k hk hlow => ?_⟩
  · rintro rfl
    rfl
  · intro enters
    have hsource := lowestSource_eq_some hk hlow
    have hline : (req != 0#5) = true := by
      rw [bne_iff_ne]; rintro rfl; simp at hk
    have henters : s.takesInterrupt = true ↔ enters := s.takesInterrupt_iff
    refine ⟨fun h => ?_, fun h hm => ?_, fun h hm => ?_⟩
    · simp only [referenceTurn, hsource, hline, henters.mpr h, if_true]
      exact ⟨trivial, getLsbD_clear_source req k⟩
    · simp [referenceTurn, hsource, hline, henters, h, hm]
    · simp [referenceTurn, hsource, hline, henters, h, hm]

end Sys2Proof.Machine
end
